-- ==== Sys2Proof/Word.lean ====
section
/-! DEFINITION. The octet and word types of the MWD-412's layouts (spec/12, R189). -/

namespace Sys2Proof

/-- One octet of a frame, telegram, message or record entry. -/
abbrev Byte := BitVec 8

/-- A sixteen-bit field: a ring address or a telegram check. -/
abbrev Word16 := BitVec 16

/-- A thirty-two-bit field: a frame check or a record sequence number. -/
abbrev Word32 := BitVec 32

end Sys2Proof
end

