-- ==== Sys2Proof/Syntax.lean ====
section
/-! DEFINITION. The commands of the MWD-412: one constructor of `Instr` for each row of spec/opcode_table.json, with
the data the event brings; and the service requests of spec/12 R191 as data. -/

namespace Sys2Proof

/-- A ring port (R49). -/
inductive PortId where
  | a
  | b
  deriving DecidableEq, Repr

/-- The other ring port. -/
def PortId.other : PortId → PortId
  | .a => .b
  | .b => .a

/-- A clock line (R164). -/
inductive LineId where
  | one
  | two
  deriving DecidableEq, Repr

/-- A reference source (R26). -/
inductive Source where
  | ref1
  | ref2
  | ring
  deriving DecidableEq, Repr

/-- A wired reference source: one with a mark line and a message line (spec/02). -/
inductive Wired where
  | ref1
  | ref2
  deriving DecidableEq, Repr

/-- The wired reference as a source. -/
def Wired.source : Wired → Source
  | .ref1 => .ref1
  | .ref2 => .ref2

/-- An instant in centre time given as a day and a second of day (R189). -/
structure Instant where
  day : Nat
  second : Nat
  deriving DecidableEq, Repr

/-- The four characters of a train tag, as octets (R189). -/
structure TrainTag where
  c0 : Byte
  c1 : Byte
  c2 : Byte
  c3 : Byte
  deriving DecidableEq, Repr

/-- The settings of one source as SET TIME CONFIGURATION carries them (R39); `enable` is the flag octet. -/
structure SourceParams where
  enable : Nat
  priority : Nat
  delay : Nat
  deriving DecidableEq, Repr

/-- The fields of SET TIME CONFIGURATION as received (R24, R39): flags and listed values as their octets' numbers. -/
structure TimeConfigParams where
  stepThreshold : Nat
  stepPermit : Nat
  stepInRun : Nat
  fineEntry : Nat
  fineExit : Nat
  kp : Nat
  ki : Nat
  slewRate : Nat
  holdDrift : Nat
  l1 : Nat
  l2 : Nat
  l3 : Nat
  ref1 : SourceParams
  ref2 : SourceParams
  ring : SourceParams
  nQual : Nat
  nDisq : Nat
  revertHold : Nat
  masterEnable : Nat
  masterAddress : Nat
  deriving DecidableEq, Repr

/-- The fields of LOAD ELEMENT as received (R62, R65); an absent limit asks for its default. -/
structure LoadElementParams where
  address : Nat
  kind : Nat
  mode : Nat
  timetablePoint : Nat
  silence : Option Nat
  start : Option Nat
  run : Option Nat
  settle : Option Nat
  bounces : Option Nat
  warning : Option Nat
  confirm : Option Nat
  deriving DecidableEq, Repr

/-- The fields of LOAD ENTRY as received (R126, R132). -/
structure LoadEntryParams where
  id : Nat
  period : Nat
  train : TrainTag
  element : Nat
  check : Nat
  scheduled : Instant
  early : Nat
  late : Nat
  severe : Nat
  deriving DecidableEq, Repr

/-- The fields of SET CLOCK LINE as received (R165); an absent field is *keep*. -/
structure ClockLineParams where
  line : Nat
  enable : Option Nat
  step : Option Nat
  shown : Option Nat
  polarity : Option Nat
  width : Option Nat
  fast : Option Nat
  wait : Option Nat
  retry : Option Nat
  deriving DecidableEq, Repr

/-- A service request with its parameters as received (R191). -/
inductive Request where
  | readStatus
  | setTimeConfiguration (p : TimeConfigParams)
  | setLocalOffset (offset : Option Int) (at_ : Option Instant)
  | setRingPort (port mode limit : Nat)
  | loadElement (p : LoadElementParams)
  | unloadElement (address : Nat)
  | setElementMode (address mode : Nat)
  | readElement (address search : Nat)
  | setTimetableSettings (lead grace : Nat)
  | setChangeover (at_ : Option Instant) (drain : Option Nat)
  | loadEntry (p : LoadEntryParams)
  | withdrawEntry (id : Nat)
  | erasePeriod (period : Nat)
  | readEntry (id search : Nat)
  | readRecord (first : Word32)
  | acknowledgeRecord (through : Word32)
  | setActions (count : Nat) (pairs : List (Nat × Nat))
  | acknowledgeAlarm (target address : Nat)
  | setClockLine (p : ClockLineParams)
  | requestState (state : Nat)
  | setRunCondition (value : Nat)
  | acknowledgeErrorIndication
  | restart
  deriving DecidableEq, Repr

/-- How a SERVICE telegram reaches the part: the oscillator periods since the previous command, the port its frame is
being received on, and the telegram's address, sequence number and received result (R177, R191). -/
structure Telegram where
  dt : Nat
  port : PortId
  address : Word16
  sequence : Byte
  result : Byte
  deriving DecidableEq, Repr

/-- The commands: one constructor per row of spec/opcode_table.json. `dt` is the number of oscillator periods between
the previous command and this one (DESIGN CHOICE, log 1). -/
inductive Instr where
  | powerOn (straps : Byte)
  | resetAssert
  | firstLinkReport (dt : Nat) (p : PortId) (up : Bool)
  | linkDown (dt : Nat) (p : PortId)
  | linkUp (dt : Nat) (p : PortId)
  | loopStateChange (dt : Nat) (p : PortId)
  | frameStart (dt : Nat) (p : PortId) (head : List Byte)
  | telegramParse (dt : Nat) (p : PortId) (octets : List Byte)
  | telegramCheck (dt : Nat) (p : PortId) (check : Word16)
  | frameCut (dt : Nat) (p : PortId) (octets : List Byte)
  | frameEnd (dt : Nat) (p : PortId) (octets : List Byte)
  | portSilenceDeadline (dt : Nat) (p : PortId)
  | referenceMessage (dt : Nat) (w : Wired) (octets : List Byte)
  | messageOctetTimeout (dt : Nat) (w : Wired)
  | messageFramingError (dt : Nat) (w : Wired)
  | markLeadingEdge (dt : Nat) (w : Wired)
  | markTrailingEdge (dt : Nat) (w : Wired)
  | markWidthLimit (dt : Nat) (w : Wired)
  | markDeadline (dt : Nat) (src : Source)
  | absenceDeadline (dt : Nat) (src : Source)
  | revertInstant (dt : Nat) (src : Source)
  | holdoverSecond (dt : Nat)
  | scaleEndHold (dt : Nat)
  | secondMarkStart (dt : Nat)
  | secondMarkEnd (dt : Nat)
  | offsetChangeInstant (dt : Nat)
  | elementSilenceDeadline (dt : Nat) (address : Nat)
  | startDeadline (dt : Nat) (address : Nat)
  | runDeadline (dt : Nat) (address : Nat)
  | settleDeadline (dt : Nat) (address : Nat)
  | confirmDeadline (dt : Nat) (address : Nat)
  | changeover (dt : Nat)
  | drainEnd (dt : Nat)
  | timetableExpiry (dt : Nat)
  | pulseStart (dt : Nat) (l : LineId)
  | currentPresent (dt : Nat) (l : LineId) (active : Bool)
  | pulseEnd (dt : Nat) (l : LineId)
  | overcurrent (dt : Nat) (l : LineId) (active : Bool)
  | retryDeadline (dt : Nat) (l : LineId)
  | readStatus (t : Telegram)
  | setTimeConfiguration (t : Telegram) (p : TimeConfigParams)
  | setLocalOffset (t : Telegram) (offset : Option Int) (at_ : Option Instant)
  | setRingPort (t : Telegram) (port mode limit : Nat)
  | loadElement (t : Telegram) (p : LoadElementParams)
  | unloadElement (t : Telegram) (address : Nat)
  | setElementMode (t : Telegram) (address mode : Nat)
  | readElement (t : Telegram) (address search : Nat)
  | setTimetableSettings (t : Telegram) (lead grace : Nat)
  | setChangeover (t : Telegram) (at_ : Option Instant) (drain : Option Nat)
  | loadEntry (t : Telegram) (p : LoadEntryParams)
  | withdrawEntry (t : Telegram) (id : Nat)
  | erasePeriod (t : Telegram) (period : Nat)
  | readEntry (t : Telegram) (id search : Nat)
  | readRecord (t : Telegram) (first : Word32)
  | acknowledgeRecord (t : Telegram) (through : Word32)
  | setActions (t : Telegram) (count : Nat) (pairs : List (Nat × Nat))
  | acknowledgeAlarm (t : Telegram) (target address : Nat)
  | setClockLine (t : Telegram) (p : ClockLineParams)
  | requestState (t : Telegram) (state : Nat)
  | setRunCondition (t : Telegram) (value : Nat)
  | acknowledgeErrorIndication (t : Telegram)
  | restart (t : Telegram)
  | messageOctet (dt : Nat) (w : Wired) (octet : Byte)
  | lastOctetLeft (dt : Nat) (p : PortId)
  deriving DecidableEq, Repr

end Sys2Proof
end

