-- ==== Sys2Proof/Config.lean ====
section
/-! DEFINITION. What is fixed for the part: the constants the spec gives, and the free values (opaque, no body) for
the choices it leaves open. -/

namespace Sys2Proof.Config

/-- Nanoseconds in a day of centre time (R1). -/
def nsPerDay : Nat := 86400000000000

/-- The last scale value, day 65535, 86 399 999 999 999 ns (R2). -/
def lastScale : Nat := 5662310399999999999

/-- Whole nanoseconds of one oscillator period: 25 000 000 periods make a second (R1). -/
def nsPerPeriod : Nat := 40

/-- Oscillator periods of the constant forwarding delay of 1.2 us (section 11.9, R54). -/
def forwardPeriods : Nat := 30

/-- Capacity of the element table (R61). -/
def maxElements : Nat := 2048

/-- Capacity of the timetable store (R125). -/
def maxEntries : Nat := 4096

/-- Capacity of the event record (R147). -/
def maxRecord : Nat := 8192

/-- Occupancy from which the alarm reserve begins (R149). -/
def alarmReserve : Nat := 7936

/-- The ceiling of the uncertainty (R18). -/
def maxU : Nat := 4294967295

/-- Time of ten bits at 9600 baud, in whole microseconds: one octet of the message line (R27, section 2.2). -/
def octetMicros : Nat := 1041

/-- FREE VALUE (log 3, log 17): which of several events of one instant is taken next, for the n-th free choice. -/
opaque freeOrder : Nat → Nat

/-- FREE VALUE (log 18): whether, of a start and a run deadline both reached at once, the start deadline is first. -/
opaque startFirst : Nat → Bool

/-- FREE VALUE (log 19): the centre time that a set or step below the start of day 0 leaves, before it is brought
into the range of the scale. -/
opaque belowZero : Nat → Nat

end Sys2Proof.Config
end

