-- ==== Sys2Proof/Machine/State.lean ====
section
/-! DEFINITION. The state of the MWD-412, block by block as spec/00 cuts it, its faults and refusals, and the state
right after power-on. -/

namespace Sys2Proof.Machine

open Sys2Proof

/-- What stops the part with a fault: nothing. The spec gives every event an effect, so no meaning ends in a fault. -/
inductive Fault where
  deriving DecidableEq, Repr

/-- Why a command has no meaning. -/
inductive Refusal where
  /-- Raised by `exec` alone, for a row whose meaning is not written yet; safe. -/
  | notModelled (mnemonic : String)
  deriving DecidableEq, Repr

/-! ## Time base -/

/-- Quality classes, best to worst (R19). -/
inductive Quality where
  | q1 | q2 | q3 | q4
  deriving DecidableEq, Repr

/-- The class's number, 1 to 4, which is also its octet (R189). -/
def Quality.rank : Quality → Nat
  | .q1 => 1
  | .q2 => 2
  | .q3 => 3
  | .q4 => 4

/-- Discipline modes (R7). -/
inductive Mode where
  | free | fine | slew | holdover
  deriving DecidableEq, Repr

/-- A capture: centre time (scale value, ns) and the elapsed count (us) at one instant (R4). -/
structure Capture where
  centre : Nat
  elapsed : Nat
  deriving DecidableEq, Repr

/-- A stamp (R5). -/
structure Stamp where
  day : Nat
  micros : Nat
  epoch : Nat
  quality : Quality
  deriving DecidableEq, Repr

/-- A capture kept with the stamp formed from it (R94, R114). -/
structure Dated where
  capture : Capture
  stamp : Stamp
  deriving DecidableEq, Repr

/-- The settings of one reference source (R39). -/
structure SourceSetting where
  enable : Bool
  priority : Nat
  delay : Nat
  deriving DecidableEq, Repr

/-- The time configuration (R24, R39), in the units of R189. -/
structure TimeConfig where
  stepThreshold : Nat
  stepPermit : Bool
  stepInRun : Bool
  fineEntry : Nat
  fineExit : Nat
  kp : Nat
  ki : Nat
  slewRate : Nat
  holdDrift : Nat
  l1 : Nat
  l2 : Nat
  l3 : Nat
  ref1 : SourceSetting
  ref2 : SourceSetting
  ring : SourceSetting
  nQual : Nat
  nDisq : Nat
  revertHold : Nat
  masterEnable : Bool
  masterAddress : Nat
  deriving DecidableEq, Repr

/-- The settings of a source. -/
def TimeConfig.source (c : TimeConfig) : Source → SourceSetting
  | .ref1 => c.ref1
  | .ref2 => c.ref2
  | .ring => c.ring

/-- The defaults of R24 and R39. -/
def TimeConfig.default : TimeConfig :=
  { stepThreshold := 100, stepPermit := true, stepInRun := true, fineEntry := 1000, fineExit := 4000, kp := 3, ki := 8,
    slewRate := 200000, holdDrift := 500, l1 := 1000, l2 := 10, l3 := 100,
    ref1 := { enable := true, priority := 1, delay := 0 },
    ref2 := { enable := true, priority := 2, delay := 0 },
    ring := { enable := false, priority := 3, delay := 0 },
    nQual := 10, nDisq := 3, revertHold := 60, masterEnable := false, masterAddress := 0xF000 }

/-- A pending offset change (R21). -/
structure PendingOffset where
  offset : Int
  instant : Instant
  deriving DecidableEq, Repr

/-- The time base (R1 to R25). -/
structure TimeBase where
  /-- Centre time's scale value in ns. -/
  centre : Nat
  /-- What the advance has gained beyond `centre`, in units of 10⁻⁹ ns (the model's own, log 4). -/
  centreFrac : Nat
  /-- The end-of-scale hold (R2). -/
  held : Bool
  /-- The elapsed count in us (R3). -/
  elapsed : Nat
  /-- What the advance has gained beyond `elapsed`, in units of 10⁻⁹ ns (the model's own, log 4). -/
  elapsedFrac : Nat
  epoch : Nat
  mode : Mode
  timeSet : Bool
  /-- Rate correction c, ppb. -/
  c : Int
  /-- Integral term I, ppb. -/
  i : Int
  /-- Uncertainty U, ns. -/
  u : Nat
  stepCount : Nat
  quality : Quality
  /-- Elapsed count of the next holdover second (R17). -/
  nextHoldover : Option Nat
  localOffset : Int
  pendingOffset : Option PendingOffset
  /-- The advance has reached a second boundary whose SECOND_MARK_START is not yet taken (the model's own, log 4). -/
  boundary : Bool
  /-- The second-mark output pin (R23). -/
  secondMark : Bool
  /-- Elapsed count at which the second-mark pulse falls. -/
  secondMarkEnd : Option Nat
  config : TimeConfig
  deriving DecidableEq, Repr

/-! ## Reference selector -/

/-- Qualification states (R26). -/
inductive Qualification where
  | absent | qualifying | qualified | disqualified
  deriving DecidableEq, Repr

/-- What R26 holds for each source. -/
structure SourceState where
  state : Qualification
  good : Nat
  bad : Nat
  previousGood : Option Nat
  qualifiedSince : Option Nat
  markDeadline : Option Nat
  absenceDeadline : Option Nat
  deriving DecidableEq, Repr

/-- Status codes of the reference time message (R27, R194). -/
inductive MessageStatus where
  | ok | degraded | unlocked
  deriving DecidableEq, Repr

/-- The contents a valid message records (R27). -/
structure MessageContents where
  day : Nat
  second : Nat
  status : MessageStatus
  counter : Nat
  deriving DecidableEq, Repr

/-- The held message: valid exactly when it has contents (R27). -/
structure HeldMessage where
  arrived : Nat
  contents : Option MessageContents
  deriving DecidableEq, Repr

/-- The mark in progress with the message noted at its leading edge (R29). -/
structure MarkInProgress where
  capture : Capture
  message : Option HeldMessage
  deriving DecidableEq, Repr

/-- The lines of a wired reference: mark line level, mark in progress, message receiver and held message. -/
structure WiredState where
  lineActive : Bool
  mark : Option MarkInProgress
  message : Option HeldMessage
  /-- Octets collected so far; hunting when empty (R27). -/
  collected : List Byte
  /-- Elapsed count at the end of the last collected octet. -/
  octetEnd : Nat
  deriving DecidableEq, Repr

/-- The reference selector (R26 to R42). -/
structure Selector where
  ref1 : SourceState
  ref2 : SourceState
  ring : SourceState
  wired1 : WiredState
  wired2 : WiredState
  lastRingSecond : Option (Nat × Nat)
  selected : Option Source
  deriving DecidableEq, Repr

/-! ## Elements -/

/-- Element kinds (R62). -/
inductive ElementKind where
  | signal | point
  deriving DecidableEq, Repr

/-- Element modes (R62). -/
inductive ElementMode where
  | ignore | observe | supervise | test
  deriving DecidableEq, Repr

/-- A commanded position of a point (R46). -/
inductive Target where
  | normal | reverse
  deriving DecidableEq, Repr

/-- A detected position of a point (R46). -/
inductive Detected where
  | none | normal | reverse
  deriving DecidableEq, Repr

/-- The detected position that shows a target. -/
def Target.detected : Target → Detected
  | .normal => .normal
  | .reverse => .reverse

/-- Lamp of a signal status (R46). -/
inductive Lamp where
  | proven | dark
  deriving DecidableEq, Repr

/-- The value of an accepted telegram (R81). -/
inductive Value where
  | target (t : Target)
  | aspect (a : Nat) (tag : Option TrainTag)
  | detected (d : Detected)
  | shown (a : Nat) (lamp : Lamp)
  deriving DecidableEq, Repr

/-- Telegram kinds of element telegrams (R46). -/
inductive TelegramKind where
  | command | status
  deriving DecidableEq, Repr

/-- A held value with its stale marker (R63, R71). -/
structure Held where
  value : Value
  stale : Bool
  deriving DecidableEq, Repr

/-- Coverage (R86). -/
inductive Coverage where
  | never | observed | lost
  deriving DecidableEq, Repr

/-- The kinds of the action table, in the order of the default table of R157. -/
inductive ActionKind where
  | failedToStart | failedToDetect | detectionLost | uncommandedMove | aspectNotShown | qualityQ4
  | chatter | trend | signalDropped | lampDark | coverageLost | severe | missed | qualityQ3 | holdover | lineOpen
  | lineShort | portLinkDown | portSilent
  | slowMovement | early | onTime | late | unobserved | unplanned | sourceChange | jabber
  deriving DecidableEq, Repr

/-- The actions (R157). -/
inductive Action where
  | off | record | alert | latch
  deriving DecidableEq, Repr

/-- The kind of a latched fault: a kind of the action table, or ESCALATED (R172). -/
inductive LatchKind where
  | kind (k : ActionKind)
  | escalated
  deriving DecidableEq, Repr

/-- A latched fault (R159). -/
structure Latched where
  kind : LatchKind
  stamp : Stamp
  deriving DecidableEq, Repr

/-- Phases of a movement in progress (R94); IDLE is the absence of a context. -/
inductive Phase where
  | commanded | moving | settling
  deriving DecidableEq, Repr

/-- A movement context (R63, R94). -/
structure Movement where
  phase : Phase
  target : Target
  origin : Option Detected
  command : Dated
  leave : Option Dated
  arrival : Option Dated
  startDeadline : Nat
  runDeadline : Nat
  settleDeadline : Option Nat
  bounces : Nat
  runPassed : Bool
  deriving DecidableEq, Repr

/-- What a point record holds beside the common fields (R62, R63). -/
structure PointPart where
  startLimit : Nat
  runLimit : Nat
  settleTime : Nat
  maxBounces : Nat
  warning : Nat
  movement : Option Movement
  history : List Nat
  deriving DecidableEq, Repr

/-- A confirmation pending (R114). -/
structure Confirmation where
  aspect : Nat
  tag : Option TrainTag
  command : Dated
  deadline : Nat
  overdue : Bool
  deriving DecidableEq, Repr

/-- What a signal record holds beside the common fields (R62, R63). -/
structure SignalPart where
  timetablePoint : Bool
  confirmLimit : Nat
  clearedFor : Option TrainTag
  confirmation : Option Confirmation
  deriving DecidableEq, Repr

/-- The fields of one kind of element. -/
inductive ElementPart where
  | point (p : PointPart)
  | signal (g : SignalPart)
  deriving DecidableEq, Repr

/-- An element record (R62, R63, R64). -/
structure ElementRecord where
  address : Nat
  mode : ElementMode
  silenceLimit : Nat
  lastCommand : Option Held
  lastStatus : Option Held
  commandSequence : Option Nat
  statusSequence : Option Nat
  coverage : Coverage
  regained : Option Stamp
  silenceDeadline : Option Nat
  latched : Option Latched
  references : Nat
  part : ElementPart
  deriving DecidableEq, Repr

/-- The record's kind. -/
def ElementRecord.kind (r : ElementRecord) : ElementKind :=
  match r.part with
  | .point _ => .point
  | .signal _ => .signal

/-! ## Timetable checker -/

/-- Period tags (R125). -/
inductive Period where
  | a | b
  deriving DecidableEq, Repr

/-- Tag states (R128). -/
inductive TagState where
  | live | draining | standby
  deriving DecidableEq, Repr

/-- Check kinds (R126). -/
inductive CheckKind where
  | cleared | passed
  deriving DecidableEq, Repr

/-- States of a timetable entry (R126). -/
inductive EntryState where
  | pending | matched | missed | unobserved | withdrawn
  deriving DecidableEq, Repr

/-- A timetable entry (R126). The window start and the expiry are scale values in seconds. -/
structure TimetableEntry where
  id : Nat
  period : Period
  train : TrainTag
  element : Nat
  check : CheckKind
  scheduled : Instant
  early : Nat
  late : Nat
  severe : Nat
  windowStart : Int
  expiry : Nat
  state : EntryState
  matched : Option (Stamp × Int)
  /-- Which load put the entry in place (the model's own, log 52). -/
  serial : Nat
  deriving DecidableEq, Repr

/-- The changeover schedule (R128). -/
structure Schedule where
  instant : Instant
  drain : Nat
  deriving DecidableEq, Repr

/-- The timetable checker (R125 to R146). The due queue is the view `dueQueue` of the store. -/
structure Checker where
  store : List TimetableEntry
  tagA : TagState
  tagB : TagState
  schedule : Option Schedule
  /-- The drain end as a scale value in seconds. -/
  drainEnd : Option Nat
  lead : Nat
  grace : Nat
  /-- Loads applied since power-on (the model's own, log 52). -/
  loads : Nat
  deriving DecidableEq, Repr

/-! ## Event record -/

/-- Outcomes of a movement (R108). -/
inductive MovementOutcome where
  | complete | failed | reversed | abandoned | noMove
  deriving DecidableEq, Repr

/-- The contents of a MOVEMENT entry (R108). -/
structure MovementEntry where
  element : Nat
  outcome : MovementOutcome
  target : Target
  origin : Option Detected
  command : Stamp
  leave : Option Stamp
  arrival : Option Stamp
  duration : Option Nat
  bounces : Nat
  fault : Option ActionKind
  deriving DecidableEq, Repr

/-- The fault kinds with the details their entries carry (R88, R109, R122). -/
inductive FaultDetail where
  | failedToStart (target : Target) (origin : Option Detected) (limit : Nat) (command : Stamp)
  | failedToDetect (target : Target) (origin : Option Detected) (limit : Nat) (last : Option Value)
      (leave : Option Stamp) (bounces : Nat)
  | chatter (target : Target) (bounces limit : Nat)
  | slowMovement (duration warning : Nat)
  | trend (durations : List Nat) (warning : Nat)
  | detectionLost (previous : Value)
  | uncommandedMove (target : Target) (shown : Detected) (previous : Option Value)
  | aspectNotShown (aspect : Nat) (tag : Option TrainTag) (limit : Nat) (command : Stamp) (last : Option Value)
  | signalDropped (previous : Nat) (commanded : Nat) (clearedFor : Option TrainTag)
  | lampDark (shown : Nat) (commanded : Option Nat)
  | coverageLost (limit : Nat) (regained : Option Stamp)
  deriving DecidableEq, Repr

/-- Verdict classes (R139). -/
inductive VerdictClass where
  | early | onTime | late | severe | unplanned | missed | unobserved | withdrawn
  deriving DecidableEq, Repr

/-- Reasons of a WITHDRAWN verdict (R139). -/
inductive WithdrawReason where
  | requested | drainEnd | periodStandby
  deriving DecidableEq, Repr

/-- The contents of a VERDICT entry (R139). -/
structure VerdictEntry where
  verdict : VerdictClass
  id : Option Nat
  period : Option Period
  train : TrainTag
  element : Nat
  check : CheckKind
  scheduled : Option Instant
  event : Option Stamp
  deviation : Option Int
  reason : Option WithdrawReason
  qualified : Bool
  deriving DecidableEq, Repr

/-- Reasons of a SOURCE CHANGE entry (R38). -/
inductive SelectReason where
  | qualified | lost | revert | configured
  deriving DecidableEq, Repr

/-- A ring port's loop mode (R49). -/
inductive LoopMode where
  | auto | autoClose | alwaysOpen | alwaysClosed
  deriving DecidableEq, Repr

/-- A ring port's loop demand or loop state (R49). -/
inductive Loop where
  | isOpen | isClosed
  deriving DecidableEq, Repr

/-- A ring port's activity (R49). -/
inductive Activity where
  | active | silent
  deriving DecidableEq, Repr

/-- Line states (R164). -/
inductive LineState where
  | hold | running | retry | latchedOff
  deriving DecidableEq, Repr

/-- Polarity of a pulse (R164). -/
inductive Polarity where
  | positive | negative
  deriving DecidableEq, Repr

/-- The opposite polarity. -/
def Polarity.opposite : Polarity → Polarity
  | .positive => .negative
  | .negative => .positive

/-- Operating states (R181). -/
inductive OpState where
  | config | run
  deriving DecidableEq, Repr

/-- Causes of a STATE_CHANGE entry (R182, R185). -/
inductive Cause where
  | request | restart
  deriving DecidableEq, Repr

/-- What can hold a latch (R159). -/
inductive LatchTarget where
  | element (address : Nat)
  | time
  | line (l : LineId)
  | port (p : PortId)
  deriving DecidableEq, Repr

/-- The open gap tally (R150). -/
structure Tally where
  first : Stamp
  last : Stamp
  routine : Nat
  alarm : Nat
  deriving DecidableEq, Repr

/-- The contents of a record entry, by kind and type (R154). -/
inductive EntryBody where
  | element (address : Nat) (kind : ElementKind) (telegram : TelegramKind) (sequence : Nat) (old : Option Value)
      (new : Value) (port : PortId) (initial : Bool)
  | movement (m : MovementEntry)
  | fault (address : Nat) (d : FaultDetail)
  | verdict (v : VerdictEntry)
  | timeSet (before after : Nat) (eFull : Int) (src : Source) (epoch : Nat)
  | timeStep (before after : Nat) (eFull : Int) (src : Source) (epoch : Nat)
  | timeQuality (old new : Quality) (u : Nat)
  | timeSourceChange (old new : Option Source) (reason : SelectReason)
  | timeHoldover (last : Source) (u : Nat) (i : Int)
  | timeOffsetChange (old new : Int) (instant : Option Instant)
  | portLinkDown (p : PortId) (badFrames : Nat)
  | portLinkUp (p : PortId)
  | portSilent (p : PortId) (limit : Nat)
  | portActive (p : PortId)
  | portJabber (p : PortId)
  | portLoop (p : PortId) (state : Loop) (mode : LoopMode)
  | lineOpen (l : LineId) (shown : Option Nat) (target : Nat) (polarity : Polarity)
  | lineShort (l : LineId) (shown : Option Nat) (polarity : Polarity) (elapsed : Nat) (count : Nat)
  | lineEscalated (l : LineId) (shown : Option Nat) (count : Nat) (retry : Nat)
  | lineSet (l : LineId) (shownBefore shownAfter : Option Nat) (polarityBefore polarityAfter : Option Polarity)
      (enable : Bool) (step : Nat) (state : LineState)
  | statePowerOn (address : Nat)
  | stateRestart (before : OpState)
  | stateChange (old new : OpState) (cause : Cause)
  | stateChangeover (draining live : Period) (instant : Instant) (drainEnd : Nat)
  | stateDrainEnd (period : Period) (pending : Nat)
  | stateAlarmAck (target : LatchTarget) (cleared : Latched)
  | gap (t : Tally)
  deriving DecidableEq, Repr

/-- An admitted entry (R154). -/
structure Entry where
  sequence : Word32
  body : EntryBody
  stamp : Stamp
  adjusted : Bool
  alarm : Bool
  action : Option Action
  latch : Bool
  test : Bool
  deriving DecidableEq, Repr

/-- The event record (R147). Occupancy and alarm-entry count are views of the entries. -/
structure EventRecord where
  entries : List Entry
  next : Word32
  last : Option Stamp
  tally : Option Tally
  deriving DecidableEq, Repr

/-- The alarm unit (R157, R159, R161). -/
structure AlarmUnit where
  /-- One action for each kind of `ActionKind`, in its order. -/
  actions : List Action
  time : Option Latched
  line1 : Option Latched
  line2 : Option Latched
  portA : Option Latched
  portB : Option Latched
  /-- The alarm output pin. -/
  output : Bool
  deriving DecidableEq, Repr

/-! ## Service responder -/

/-- Results (R191, table of section 11.2). -/
inductive Result where
  | done | doneClamped | refusedState | refusedArgument | full | notFound | referenced | idInUse | tooLate
  | notATimetablePoint | badTolerance | periodNotLoadable | superseded
  deriving DecidableEq, Repr

/-- Reasons of a refused REQUEST STATE (R180, R181). -/
inductive Reason where
  | noElements | timeUnset
  deriving DecidableEq, Repr

/-- The error indication (R180). -/
structure ErrorIndication where
  code : Byte
  result : Result
  reason : Option Reason
  stamp : Stamp
  deriving DecidableEq, Repr

/-- The service responder's own state (R180, R181, R188). -/
structure Service where
  state : OpState
  runCondition : Bool
  error : Option ErrorIndication
  stationAddress : Nat
  deriving DecidableEq, Repr

/-! ## Frame engine and ports -/

/-- What waits for a frame's end: an element or TIME telegram of the pending list (R76), or a handed-on service request
with its answer (R177, R179, R180); `judged` is the number of loads applied when it was judged (log 52). -/
inductive ItemContent where
  | element (kind : TelegramKind) (address : Nat) (sequence : Nat) (body : List Byte)
  | time (address : Nat) (sequence : Nat) (body : List Byte)
  | service (code : Byte) (request : Option Request) (result : Result) (reason : Option Reason) (judged : Nat)
  deriving DecidableEq, Repr

/-- An item with its position, the frame octet just after its telegram, and its capture (R76). -/
structure Item where
  position : Nat
  ends : Nat
  capture : Capture
  content : ItemContent
  deriving DecidableEq, Repr

/-- A telegram whose check has not arrived yet: its octets as received and as sent, whether anything was inserted, and
what it will leave if the check is good. -/
structure OpenTelegram where
  received : List Byte
  sent : List Byte
  inserted : Bool
  position : Nat
  capture : Capture
  content : Option ItemContent
  deriving DecidableEq, Repr

/-- A frame in flight on a port (R49, R76). -/
structure Frame where
  received : List Byte
  sent : List Byte
  /-- The transmitter the frame claimed at its first octet (R54). -/
  through : Option PortId
  processed : Bool
  parsed : Nat
  inserted : Bool
  items : List Item
  telegram : Option OpenTelegram
  deriving DecidableEq, Repr

/-- A port's transmitter (R54): sending the frame received on `src`, whose octets are complete once its end has come. -/
inductive Transmitter where
  | idle
  | sending (src : PortId) (octets : Option (List Byte))
  deriving DecidableEq, Repr

/-- A ring port (R49). -/
structure Port where
  up : Bool
  /-- The PHY has reported since power-on (R60). -/
  reported : Bool
  mode : LoopMode
  demand : Loop
  loop : Loop
  reopenCount : Nat
  reopenPending : Bool
  activity : Activity
  silenceDeadline : Option Nat
  silenceLimit : Nat
  badFrames : Nat
  frame : Option Frame
  /-- A cut frame's end has not been reported yet (R57). -/
  awaitingEnd : Bool
  transmitter : Transmitter
  /-- The link was down at some instant since the transmitter began its frame, which is therefore lost (R50, R54). -/
  sendLost : Bool
  /-- The octets of the last frame sent whole (the model's own view of the output, log 34). -/
  lastSent : List Byte
  deriving DecidableEq, Repr

/-! ## Clock lines -/

/-- A pulse in flight (R164). -/
structure Pulse where
  polarity : Polarity
  start : Nat
  deadline : Nat
  currentSeen : Bool
  deriving DecidableEq, Repr

/-- A clock line (R164) with its bridge pins. -/
structure Line where
  state : LineState
  enable : Bool
  step : Nat
  shown : Option Nat
  polarity : Option Polarity
  width : Nat
  fast : Nat
  wait : Nat
  retry : Nat
  shortCount : Nat
  openReported : Bool
  lastStart : Option Nat
  pulse : Option Pulse
  retryDeadline : Option Nat
  /-- Bridge drive pin. -/
  drive : Bool
  /-- Bridge polarity pin. -/
  bridge : Polarity
  /-- Current-present sense pin. -/
  current : Bool
  /-- Overcurrent sense pin. -/
  overCurrent : Bool
  deriving DecidableEq, Repr

/-! ## The whole part -/

/-- The whole part: each block of spec/00, the command queue, and the model's own fields. -/
structure State where
  /-- The reset pin is asserted (R187). -/
  inReset : Bool
  time : TimeBase
  refs : Selector
  portA : Port
  portB : Port
  /-- The element table, ascending by address (R61). -/
  elements : List ElementRecord
  checker : Checker
  record : EventRecord
  alarms : AlarmUnit
  line1 : Line
  line2 : Line
  service : Service
  /-- Free choices made so far (the model's own, log 33). -/
  choices : Nat
  pending : List Instr
  deriving DecidableEq, Repr

/-! ## Power-on values -/

/-- R25. -/
def TimeBase.powerOn : TimeBase :=
  { centre := 0, centreFrac := 0, held := false, elapsed := 0, elapsedFrac := 0, epoch := 0, mode := .free,
    timeSet := false, c := 0, i := 0, u := Config.maxU, stepCount := 0, quality := .q4, nextHoldover := none,
    localOffset := 0, pendingOffset := none, boundary := false, secondMark := false, secondMarkEnd := none,
    config := TimeConfig.default }

/-- A source that is ABSENT with nothing held (R26, R42). -/
def SourceState.absent : SourceState :=
  { state := .absent, good := 0, bad := 0, previousGood := none, qualifiedSince := none, markDeadline := none,
    absenceDeadline := none }

/-- R42. -/
def WiredState.powerOn : WiredState :=
  { lineActive := false, mark := none, message := none, collected := [], octetEnd := 0 }

/-- R42. -/
def Selector.powerOn : Selector :=
  { ref1 := .absent, ref2 := .absent, ring := .absent, wired1 := .powerOn, wired2 := .powerOn,
    lastRingSecond := none, selected := none }

/-- R60: before the PHY's first report. -/
def Port.powerOn : Port :=
  { up := false, reported := false, mode := .auto, demand := .isClosed, loop := .isClosed, reopenCount := 0,
    reopenPending := false, activity := .active, silenceDeadline := none, silenceLimit := 100, badFrames := 0,
    frame := none, awaitingEnd := false, transmitter := .idle, sendLost := false, lastSent := [] }

/-- R146. -/
def Checker.powerOn : Checker :=
  { store := [], tagA := .live, tagB := .standby, schedule := none, drainEnd := none, lead := 1800, grace := 120,
    loads := 0 }

/-- The default actions of R157, in the order of `ActionKind`. -/
def defaultActions : List Action :=
  List.replicate 6 .latch ++ List.replicate 13 .alert ++ List.replicate 8 .record

/-- R163. -/
def AlarmUnit.powerOn : AlarmUnit :=
  { actions := defaultActions, time := none, line1 := none, line2 := none, portA := none, portB := none,
    output := false }

/-- R176. -/
def Line.powerOn : Line :=
  { state := .hold, enable := false, step := 60, shown := none, polarity := none, width := 500, fast := 2000,
    wait := 60, retry := 30, shortCount := 0, openReported := false, lastStart := none, pulse := none,
    retryDeadline := none, drive := false, bridge := .positive, current := false, overCurrent := false }

/-- The stamp of day 0, epoch 0, class Q4 (R163). -/
def Stamp.powerOn : Stamp := { day := 0, micros := 0, epoch := 0, quality := .q4 }

/-- The station address that the straps give (R188). -/
def stationOf (straps : Byte) : Nat := 0xF000 + straps.toNat

/-- The POWER_ON entry (R163): alarm class, sequence number 1, stamped at day 0 with epoch 0 and class Q4. -/
def powerOnEntry (straps : Byte) : Entry :=
  { sequence := 1, body := .statePowerOn (stationOf straps), stamp := .powerOn, adjusted := false, alarm := true,
    action := none, latch := false, test := false }

/-- R163 with its POWER_ON entry admitted. -/
def EventRecord.powerOn (straps : Byte) : EventRecord :=
  { entries := [powerOnEntry straps], next := 2, last := some .powerOn, tally := none }

/-- The part right after power-on with these straps (R187). -/
def State.powerOn (straps : Byte) : State :=
  { inReset := false, time := .powerOn, refs := .powerOn, portA := .powerOn, portB := .powerOn, elements := [],
    checker := .powerOn, record := .powerOn straps, alarms := .powerOn, line1 := .powerOn, line2 := .powerOn,
    service := { state := .config, runCondition := true, error := none, stationAddress := stationOf straps },
    choices := 0, pending := [] }

/-- The machine right after reset: power-on with the straps at 0 (DESIGN CHOICE for the straps, log 6). -/
def State.reset : State := State.powerOn 0

end Sys2Proof.Machine
end

