-- ==== Sys2Proof/Machine/Ops.lean ====
section
/-! DEFINITION. The shared operations: the advance of time, captures and stamps, access to the blocks, admission to
the event record, latches and the alarm output, free choices, and the two checks of the ring. -/

namespace Sys2Proof

/-- Scale value of an instant in seconds (R126). -/
def Instant.seconds (i : Instant) : Nat := i.day * 86400 + i.second

/-- Scale value of an instant in nanoseconds (R126). -/
def Instant.nanos (i : Instant) : Nat := i.seconds * 1000000000

end Sys2Proof

namespace Sys2Proof.Machine

open Sys2Proof

/-! ## Time -/

/-- What `n` oscillator periods add to both counts, in units of 10⁻⁹ ns: n × 40 ns × (1 + c × 10⁻⁹) (R1, R3). -/
def TimeBase.growth (t : TimeBase) (n : Nat) : Nat := ((40 * n : Nat) * (1000000000 + t.c)).toNat

/-- Advance of the elapsed count over `n` oscillator periods (R3). -/
def TimeBase.advanceElapsed (t : TimeBase) (n : Nat) : TimeBase :=
  let g := t.elapsedFrac + t.growth n
  { t with elapsed := t.elapsed + g / 1000000000000, elapsedFrac := g % 1000000000000 }

/-- Advance of centre time over `n` oscillator periods, stopping at the end of the scale (R1, R2), and noting whether a
second boundary was reached on the way (R23). -/
def TimeBase.advanceCentre (t : TimeBase) (n : Nat) : TimeBase :=
  let g := t.centreFrac + t.growth n
  let c := min (t.centre + g / 1000000000) Config.lastScale
  if t.held then t
  else
    { t with
      centre := c
      centreFrac := if c = Config.lastScale then 0 else g % 1000000000
      boundary := t.boundary || decide (c / 1000000000 ≠ t.centre / 1000000000) }

/-- Advance of both counts over `n` oscillator periods. -/
def TimeBase.advance (t : TimeBase) (n : Nat) : TimeBase :=
  if n = 0 then t else (t.advanceCentre n).advanceElapsed n

/-- The whole part `n` oscillator periods later, no event taken. -/
def State.advance (s : State) (n : Nat) : State := { s with time := s.time.advance n }

/-- A command that arrives `n` periods after the one before it, and has an effect `f`; while the reset pin is asserted
nothing reaches the part (R187; log 7). -/
def State.timed (s : State) (n : Nat) (f : State → State) : Host.Outcome State Fault Refusal :=
  .next (if s.inReset then s else f (s.advance n))

/-- The capture taken now (R4). -/
def State.capture (s : State) : Capture := { centre := s.time.centre, elapsed := s.time.elapsed }

/-- Microseconds of a capture's day. -/
def Capture.micros (c : Capture) : Nat := c.centre % Config.nsPerDay / 1000

/-- The stamp formed now from a capture (R5). -/
def State.stampOf (s : State) (c : Capture) : Stamp :=
  { day := c.centre / Config.nsPerDay, micros := c.micros, epoch := s.time.epoch, quality := s.time.quality }

/-- A capture kept with its stamp (R94, R114). -/
def State.dated (s : State) (c : Capture) : Dated := { capture := c, stamp := s.stampOf c }

/-- A stamp's scale value in microseconds (R126). -/
def Stamp.scaleMicros (t : Stamp) : Nat := t.day * 86400000000 + t.micros

/-- The capture that a train event's stamp stands for as a verdict's capture (R139; log 30). -/
def Stamp.asCapture (t : Stamp) (elapsed : Nat) : Capture :=
  { centre := t.scaleMicros * 1000, elapsed := elapsed }

/-- A deadline on the elapsed count is present and reached (R3). -/
def State.reached (s : State) (d : Option Nat) : Bool :=
  match d with
  | some e => decide (e ≤ s.time.elapsed)
  | none => false

/-! ## Blocks by name -/

/-- A ring port. -/
def State.port (s : State) : PortId → Port
  | .a => s.portA
  | .b => s.portB

/-- Replaces a ring port. -/
def State.setPort (s : State) (p : PortId) (x : Port) : State :=
  match p with
  | .a => { s with portA := x }
  | .b => { s with portB := x }

/-- A clock line. -/
def State.line (s : State) : LineId → Line
  | .one => s.line1
  | .two => s.line2

/-- Replaces a clock line. -/
def State.setLine (s : State) (l : LineId) (x : Line) : State :=
  match l with
  | .one => { s with line1 := x }
  | .two => { s with line2 := x }

/-- A reference source. -/
def State.source (s : State) : Source → SourceState
  | .ref1 => s.refs.ref1
  | .ref2 => s.refs.ref2
  | .ring => s.refs.ring

/-- Replaces a reference source. -/
def State.setSource (s : State) (x : Source) (v : SourceState) : State :=
  match x with
  | .ref1 => { s with refs := { s.refs with ref1 := v } }
  | .ref2 => { s with refs := { s.refs with ref2 := v } }
  | .ring => { s with refs := { s.refs with ring := v } }

/-- The lines of a wired reference. -/
def State.wired (s : State) : Wired → WiredState
  | .ref1 => s.refs.wired1
  | .ref2 => s.refs.wired2

/-- Replaces the lines of a wired reference. -/
def State.setWired (s : State) (w : Wired) (v : WiredState) : State :=
  match w with
  | .ref1 => { s with refs := { s.refs with wired1 := v } }
  | .ref2 => { s with refs := { s.refs with wired2 := v } }

/-- The record held at an element address (R61). -/
def State.element (s : State) (a : Nat) : Option ElementRecord := s.elements.find? (fun r => r.address == a)

/-- Changes the record held at an address, if one is. -/
def State.modifyElement (s : State) (a : Nat) (f : ElementRecord → ElementRecord) : State :=
  { s with elements := s.elements.map (fun r => if r.address = a then f r else r) }

/-- Changes the point fields of a record. -/
def ElementRecord.mapPoint (r : ElementRecord) (f : PointPart → PointPart) : ElementRecord :=
  match r.part with
  | .point p => { r with part := .point (f p) }
  | .signal _ => r

/-- Changes the signal fields of a record. -/
def ElementRecord.mapSignal (r : ElementRecord) (f : SignalPart → SignalPart) : ElementRecord :=
  match r.part with
  | .point _ => r
  | .signal g => { r with part := .signal (f g) }

/-- The movement in progress of a record, if it is a point that has one (R94). -/
def ElementRecord.movement (r : ElementRecord) : Option Movement :=
  match r.part with
  | .point p => p.movement
  | .signal _ => none

/-- The confirmation pending of a record, if it is a signal that has one (R114). -/
def ElementRecord.confirmation (r : ElementRecord) : Option Confirmation :=
  match r.part with
  | .point _ => none
  | .signal g => g.confirmation

/-- Inserts a record in ascending order of address, replacing one of the same address (R61). -/
def insertElement (r : ElementRecord) : List ElementRecord → List ElementRecord
  | [] => [r]
  | x :: xs =>
    if r.address < x.address then r :: x :: xs
    else if r.address = x.address then r :: xs
    else x :: insertElement r xs

/-- A held value that is present and not stale (R71, R81). -/
def fresh (h : Option Held) : Option Value :=
  match h with
  | some v => if v.stale then none else some v.value
  | none => none

/-! ## Free choices -/

/-- Takes the members of `l` one after another in a free order; `n` is the number of free choices made so far. -/
def freePermutation {α : Type} : Nat → Nat → List α → List α
  | 0, _, l => l
  | _ + 1, _, [] => []
  | _ + 1, _, [x] => [x]
  | fuel + 1, n, x :: y :: zs =>
    let l := x :: y :: zs
    let k := Config.freeOrder n % l.length
    (l[k]?).toList ++ freePermutation fuel (n + 1) (l.eraseIdx k)

/-! ## Latches and the alarm output -/

/-- The latched fault of a target (R159). -/
def State.latchOf (s : State) : LatchTarget → Option Latched
  | .element a => (s.element a).bind (·.latched)
  | .time => s.alarms.time
  | .line .one => s.alarms.line1
  | .line .two => s.alarms.line2
  | .port .a => s.alarms.portA
  | .port .b => s.alarms.portB

/-- Writes the latched fault of a target (R159). -/
def State.setLatch (s : State) (t : LatchTarget) (x : Option Latched) : State :=
  match t with
  | .element a => s.modifyElement a (fun r => { r with latched := x })
  | .time => { s with alarms := { s.alarms with time := x } }
  | .line .one => { s with alarms := { s.alarms with line1 := x } }
  | .line .two => { s with alarms := { s.alarms with line2 := x } }
  | .port .a => { s with alarms := { s.alarms with portA := x } }
  | .port .b => { s with alarms := { s.alarms with portB := x } }

/-- Some target holds a latched fault (R161). -/
def State.anyLatch (s : State) : Bool :=
  s.alarms.time.isSome || s.alarms.line1.isSome || s.alarms.line2.isSome || s.alarms.portA.isSome
    || s.alarms.portB.isSome || s.elements.any (fun r => r.latched.isSome)

/-- Evaluates the alarm output (R161). -/
def State.evalAlarm (s : State) : State := { s with alarms := { s.alarms with output := s.anyLatch } }

/-- Sets the latch of a target that holds none, and evaluates the output (R159, R161). -/
def State.latch (s : State) (t : LatchTarget) (k : LatchKind) (c : Capture) : State :=
  match s.latchOf t with
  | some _ => s
  | none => (s.setLatch t (some { kind := k, stamp := s.stampOf c })).evalAlarm

/-! ## The event record -/

/-- An entry as it is handed to the record: its capture and everything but its number and stamp (R149, R154). -/
structure Draft where
  capture : Capture
  body : EntryBody
  alarm : Bool
  action : Option Action
  latch : Bool
  test : Bool
  deriving DecidableEq, Repr

/-- An entry of a kind outside the action table (R148). -/
def Draft.plain (c : Capture) (b : EntryBody) (alarm : Bool) : Draft :=
  { capture := c, body := b, alarm := alarm, action := none, latch := false, test := false }

/-- One stamp lies before another, by day and then microseconds of day (R5). -/
def Stamp.before (x y : Stamp) : Bool := decide (x.day < y.day) || (decide (x.day = y.day) && decide (x.micros < y.micros))

/-- The stamp and the adjusted flag of an entry admitted now (R153). -/
def State.entryStamp (s : State) (c : Capture) : Stamp × Bool :=
  let own := s.stampOf c
  match s.record.last with
  | some l =>
    if l.epoch = s.time.epoch ∧ own.before l = true then ({ l with quality := s.time.quality }, true) else (own, false)
  | none => (own, false)

/-- The number of entries held (R147). -/
def EventRecord.occupancy (r : EventRecord) : Nat := r.entries.length

/-- The number of alarm-class entries held (R147). -/
def EventRecord.alarmCount (r : EventRecord) : Nat := (r.entries.filter (·.alarm)).length

/-- Admits an entry at the newest end: number, stamp, last issued stamp (R149, R152, R153). -/
def State.enrol (s : State) (d : Draft) : State :=
  let st := s.entryStamp d.capture
  { s with record :=
    { s.record with
      entries := s.record.entries ++
        [{ sequence := s.record.next, body := d.body, stamp := st.1, adjusted := st.2, alarm := d.alarm,
           action := d.action, latch := d.latch, test := d.test }]
      next := s.record.next + 1
      last := some st.1 } }

/-- Counts a lost entry in a gap tally (R150). -/
def State.tallyLost (s : State) (d : Draft) : State :=
  let st := s.stampOf d.capture
  let t : Tally :=
    match s.record.tally with
    | none => { first := st, last := st, routine := if d.alarm then 0 else 1, alarm := if d.alarm then 1 else 0 }
    | some t =>
      { t with
        last := st
        routine := if d.alarm then t.routine else min (t.routine + 1) 65535
        alarm := if d.alarm then min (t.alarm + 1) 65535 else t.alarm }
  { s with record := { s.record with tally := some t } }

/-- Writes the GAP entry of an open tally and closes it (R151). -/
def State.writeGap (s : State) : State :=
  match s.record.tally with
  | none => s
  | some t =>
    let s1 := s.enrol (Draft.plain s.capture (.gap t) true)
    { s1 with record := { s1.record with tally := none } }

/-- The GAP rule at an event that may write the GAP entry (R151). -/
def State.gapRule (s : State) : State :=
  if s.record.occupancy < Config.maxRecord then s.writeGap else s

/-- An entry of this class has room in the record (R149). -/
def State.hasRoom (s : State) (alarm : Bool) : Bool :=
  decide (s.record.occupancy < if alarm then Config.maxRecord else Config.alarmReserve)

/-- An admission attempt (R149, R150, R151). -/
def State.attempt (s : State) (d : Draft) : State :=
  let s1 := if d.alarm then s.gapRule else s
  if s1.hasRoom d.alarm then s1.enrol d else s1.tallyLost d

/-- Hands the record an entry of a kind outside the action table (R148). -/
def State.note (s : State) (c : Capture) (b : EntryBody) (alarm : Bool := false) : State :=
  s.attempt (Draft.plain c b alarm)

/-! ## The alarm unit -/

/-- The place of a kind in the action table, from 0 (R157). -/
def ActionKind.index : ActionKind → Nat
  | .failedToStart => 0
  | .failedToDetect => 1
  | .detectionLost => 2
  | .uncommandedMove => 3
  | .aspectNotShown => 4
  | .qualityQ4 => 5
  | .chatter => 6
  | .trend => 7
  | .signalDropped => 8
  | .lampDark => 9
  | .coverageLost => 10
  | .severe => 11
  | .missed => 12
  | .qualityQ3 => 13
  | .holdover => 14
  | .lineOpen => 15
  | .lineShort => 16
  | .portLinkDown => 17
  | .portSilent => 18
  | .slowMovement => 19
  | .early => 20
  | .onTime => 21
  | .late => 22
  | .unobserved => 23
  | .unplanned => 24
  | .sourceChange => 25
  | .jabber => 26

/-- The action of a kind (R157). -/
def State.actionOf (s : State) (k : ActionKind) : Action := s.alarms.actions.getD k.index .off

/-- The action applied to a raise: ALERT and LATCH act as RECORD for a verdict that is not qualified (R157). -/
def appliedAction (a : Action) (qualified : Bool) : Action :=
  if qualified then a else
    match a with
    | .off => .off
    | .record => .record
    | .alert => .record
    | .latch => .record

/-- What a block hands the alarm unit (R157). -/
structure Raise where
  kind : ActionKind
  target : LatchTarget
  capture : Capture
  body : EntryBody
  test : Bool := false
  qualified : Bool := true
  deriving DecidableEq, Repr

/-- The alarm unit takes a raise: it applies the action of the kind, latches, and forms the entry (R157, R159). -/
def State.raise (s : State) (r : Raise) : State :=
  match appliedAction (s.actionOf r.kind) r.qualified with
  | .off => s
  | .record =>
    s.attempt { capture := r.capture, body := r.body, alarm := false, action := some .record, latch := false, test := r.test }
  | .alert =>
    s.attempt { capture := r.capture, body := r.body, alarm := true, action := some .alert, latch := false, test := r.test }
  | .latch =>
    (s.latch r.target (.kind r.kind) r.capture).attempt
      { capture := r.capture, body := r.body, alarm := true, action := some .latch,
        latch := (s.latchOf r.target).isNone, test := r.test }

/-- The kind of the action table that a supervision fault or COVERAGE_LOST has (R88, R109, R122). -/
def FaultDetail.kind : FaultDetail → ActionKind
  | .failedToStart _ _ _ _ => .failedToStart
  | .failedToDetect _ _ _ _ _ _ => .failedToDetect
  | .chatter _ _ _ => .chatter
  | .slowMovement _ _ => .slowMovement
  | .trend _ _ => .trend
  | .detectionLost _ => .detectionLost
  | .uncommandedMove _ _ _ => .uncommandedMove
  | .aspectNotShown _ _ _ _ _ => .aspectNotShown
  | .signalDropped _ _ _ => .signalDropped
  | .lampDark _ _ => .lampDark
  | .coverageLost _ _ => .coverageLost

/-- An element raises a fault (R88, R109, R122). -/
def State.elementFault (s : State) (a : Nat) (c : Capture) (d : FaultDetail) (test : Bool := false) : State :=
  s.raise { kind := d.kind, target := .element a, capture := c, body := .fault a d, test := test }

/-! ## Checks of the ring -/

/-- One bit of the CRC-16 with polynomial 0x1021. -/
def crc16Bit (c : Word16) : Word16 := if c.msb then (c <<< 1) ^^^ 0x1021 else c <<< 1

/-- One octet of the CRC-16, most significant bit first (R27, R189). -/
def crc16Octet (c : Word16) (b : Byte) : Word16 :=
  let c0 := c ^^^ ((b.zeroExtend 16) <<< 8)
  crc16Bit (crc16Bit (crc16Bit (crc16Bit (crc16Bit (crc16Bit (crc16Bit (crc16Bit c0)))))))

/-- The CRC-16 of a telegram or of a reference message: initial value 0xFFFF, no final inversion (R27, R47, R189). -/
def crc16 (l : List Byte) : Word16 := l.foldl crc16Octet 0xFFFF

/-- One bit of the CRC-32 in reflected bit order. -/
def crc32Bit (c : Word32) : Word32 := if c.getLsbD 0 then (c >>> 1) ^^^ 0xEDB88320 else c >>> 1

/-- One octet of the CRC-32, least significant bit first (R47). -/
def crc32Octet (c : Word32) (b : Byte) : Word32 :=
  let c0 := c ^^^ b.zeroExtend 32
  crc32Bit (crc32Bit (crc32Bit (crc32Bit (crc32Bit (crc32Bit (crc32Bit (crc32Bit c0)))))))

/-- The frame check: CRC-32 with polynomial 0x04C11DB7, initial value 0xFFFFFFFF, reflected, inverted at the end (R47). -/
def crc32 (l : List Byte) : Word32 := ~~~ (l.foldl crc32Octet 0xFFFFFFFF)

/-! ## Octets of numbers (R189) -/

/-- A number in `n` octets, most significant first. -/
def octets : Nat → Nat → List Byte
  | 0, _ => []
  | n + 1, v => BitVec.ofNat 8 (v / 256 ^ n) :: octets n v

/-- The number that octets spell, most significant first. -/
def number (l : List Byte) : Nat := l.foldl (fun v b => v * 256 + b.toNat) 0

/-- A frame check's octets, least significant first (R47). -/
def checkOctets (c : Word32) : List Byte := (octets 4 c.toNat).reverse

end Sys2Proof.Machine
end

