-- ==== Sys2Proof/Machine/Timetable.lean ====
section
/-! DEFINITION. The timetable checker: the due queue, matching, verdicts, expiry, changeover and drain end (spec/08). -/

namespace Sys2Proof.Machine

open Sys2Proof

/-! ## The due queue (R141) -/

/-- Order of the due queue: by expiry, then by id. -/
def TimetableEntry.dueBefore (x y : TimetableEntry) : Bool :=
  decide (x.expiry < y.expiry) || (decide (x.expiry = y.expiry) && decide (x.id < y.id))

/-- Puts an entry into its place in the due queue. -/
def insertDue (e : TimetableEntry) : List TimetableEntry → List TimetableEntry
  | [] => [e]
  | x :: xs => if e.dueBefore x then e :: x :: xs else x :: insertDue e xs

/-- The PENDING entries of a store in the order of the due queue (R141). -/
def dueOrder (store : List TimetableEntry) : List TimetableEntry :=
  (store.filter (fun e => e.state = .pending)).foldr insertDue []

/-- The due queue: the PENDING entries of the store, by expiry and then by id (R141). -/
def State.dueQueue (s : State) : List TimetableEntry := dueOrder s.checker.store

/-- An entry is due when its expiry is not later than centre time (R141). -/
def State.isDue (s : State) (e : TimetableEntry) : Bool := decide (e.expiry * 1000000000 ≤ s.time.centre)

/-! ## The store (R125) -/

/-- The entry of an id. -/
def State.entry (s : State) (id : Nat) : Option TimetableEntry := s.checker.store.find? (fun e => e.id == id)

/-- Changes the entry of an id, if one is held. -/
def State.modifyEntry (s : State) (id : Nat) (f : TimetableEntry → TimetableEntry) : State :=
  { s with checker := { s.checker with store := s.checker.store.map (fun e => if e.id = id then f e else e) } }

/-- Inserts an entry in ascending order of id, replacing one of the same id (R125). -/
def insertEntry (e : TimetableEntry) : List TimetableEntry → List TimetableEntry
  | [] => [e]
  | x :: xs =>
    if e.id < x.id then e :: x :: xs
    else if e.id = x.id then e :: xs
    else x :: insertEntry e xs

/-- The state of a tag (R128). -/
def State.tag (s : State) : Period → TagState
  | .a => s.checker.tagA
  | .b => s.checker.tagB

/-- Writes the state of a tag (R128). -/
def State.setTag (s : State) (p : Period) (t : TagState) : State :=
  match p with
  | .a => { s with checker := { s.checker with tagA := t } }
  | .b => { s with checker := { s.checker with tagB := t } }

/-- The tag in a given state, if one is (R128). -/
def State.tagIn (s : State) (t : TagState) : Option Period :=
  if s.checker.tagA = t then some .a else if s.checker.tagB = t then some .b else none

/-! ## Verdicts (R139) -/

/-- The class's kind in the action table; WITHDRAWN lies outside it (R139). -/
def VerdictClass.kind : VerdictClass → Option ActionKind
  | .early => some .early
  | .onTime => some .onTime
  | .late => some .late
  | .severe => some .severe
  | .unplanned => some .unplanned
  | .missed => some .missed
  | .unobserved => some .unobserved
  | .withdrawn => none

/-- Forms the VERDICT entry of a verdict, through the alarm unit or as an entry outside the table (R139). -/
def State.verdict (s : State) (c : Capture) (v : VerdictEntry) : State :=
  match v.verdict.kind with
  | some k =>
    s.raise { kind := k, target := .element v.element, capture := c, body := .verdict v, qualified := v.qualified }
  | none => s.note c (.verdict v)

/-- A stamp's class makes a verdict qualified (R139). -/
def Quality.qualifies (q : Quality) : Bool := decide (q ≠ .q4)

/-- The contents of a verdict on a timetable entry that no train event matched (R139). -/
def TimetableEntry.unmatched (e : TimetableEntry) (c : VerdictClass) (r : Option WithdrawReason) (q : Bool) : VerdictEntry :=
  { verdict := c, id := some e.id, period := some e.period, train := e.train, element := e.element, check := e.check,
    scheduled := some e.scheduled, event := none, deviation := none, reason := r, qualified := q }

/-- The entry becomes WITHDRAWN with its VERDICT entry (R131, R134, R143). -/
def State.withdraw (s : State) (e : TimetableEntry) (r : WithdrawReason) : State :=
  (s.modifyEntry e.id (fun x => { x with state := .withdrawn })).verdict s.capture
    (e.unmatched .withdrawn (some r) s.time.quality.qualifies)

/-! ## Matching (R137, R138, R140) -/

/-- A train event (R137). -/
structure TrainEvent where
  train : TrainTag
  element : Nat
  check : CheckKind
  stamp : Stamp
  deriving DecidableEq, Repr

/-- An entry is eligible for a train event (R137). -/
def State.eligible (s : State) (v : TrainEvent) (e : TimetableEntry) : Bool :=
  decide (e.state = .pending) && decide (s.tag e.period ≠ .standby) && decide (e.train = v.train)
    && decide (e.element = v.element) && decide (e.check = v.check)
    && decide (e.windowStart * 1000000 ≤ (v.stamp.scaleMicros : Int))
    && decide (v.stamp.scaleMicros ≤ e.expiry * 1000000)

/-- Of two eligible entries, the one that is matched: earliest scheduled, then lowest id (R137). -/
def TimetableEntry.matchBefore (x y : TimetableEntry) : Bool :=
  decide (x.scheduled.seconds < y.scheduled.seconds)
    || (decide (x.scheduled.seconds = y.scheduled.seconds) && decide (x.id < y.id))

/-- The entry that a list of eligible entries gives the match to (R137). -/
def bestMatch : List TimetableEntry → Option TimetableEntry
  | [] => none
  | e :: es =>
    match bestMatch es with
    | none => some e
    | some y => if y.matchBefore e then some y else some e

/-- The deviation in whole seconds, truncated toward zero and clamped (R138). -/
def deviation (stampMicros scheduledSeconds : Nat) : Int :=
  max (-32767) (min 32767 (Int.tdiv ((stampMicros : Int) - (scheduledSeconds : Int) * 1000000) 1000000))

/-- The verdict class of a deviation (R138). -/
def TimetableEntry.classOf (e : TimetableEntry) (d : Int) : VerdictClass :=
  if d < -(e.early : Int) then .early
  else if d ≤ (e.late : Int) then .onTime
  else if d ≤ (e.severe : Int) then .late
  else .severe

/-- A train event reaches the checker: it is matched or gives UNPLANNED (R137, R138, R140). -/
def State.trainEvent (s : State) (v : TrainEvent) : State :=
  let c := v.stamp.asCapture s.time.elapsed
  match bestMatch (s.checker.store.filter (s.eligible v)) with
  | some e =>
    let d := deviation v.stamp.scaleMicros e.scheduled.seconds
    (s.modifyEntry e.id (fun x => { x with state := .matched, matched := some (v.stamp, d) })).verdict c
      { verdict := e.classOf d, id := some e.id, period := some e.period, train := e.train, element := e.element,
        check := e.check, scheduled := some e.scheduled, event := some v.stamp, deviation := some d, reason := none,
        qualified := v.stamp.quality.qualifies }
  | none =>
    s.verdict c
      { verdict := .unplanned, id := none, period := none, train := v.train, element := v.element, check := v.check,
        scheduled := none, event := some v.stamp, deviation := none, reason := none,
        qualified := v.stamp.quality.qualifies }

/-! ## Expiry (R142, R143) -/

/-- The element was heard through the entry's whole window: OBSERVED since no later than the window start (R143). -/
def State.heardThrough (s : State) (e : TimetableEntry) : Bool :=
  match s.element e.element with
  | some r =>
    match r.coverage, r.regained with
    | .observed, some t => decide ((t.scaleMicros : Int) ≤ e.windowStart * 1000000)
    | _, _ => false
  | none => false

/-- The verdict of an expiring entry of a LIVE or DRAINING tag, with the state it leaves the entry in (R143). -/
def State.expiryVerdict (s : State) (e : TimetableEntry) : VerdictClass × EntryState :=
  if s.heardThrough e then (.missed, .missed) else (.unobserved, .unobserved)

/-- One entry expires (R143). -/
def State.expireEntry (s : State) (e : TimetableEntry) : State :=
  if s.tag e.period = .standby then s.withdraw e .periodStandby
  else
    let v := s.expiryVerdict e
    (s.modifyEntry e.id (fun x => { x with state := v.2 })).verdict s.capture
      (e.unmatched v.1 none s.time.quality.qualifies)

/-- Expiry is taken: in RUN at Q3 or better (R142). -/
def State.expiryAllowed (s : State) : Bool := decide (s.service.state = .run) && s.time.quality.qualifies

/-- The entries that are due expire at once, in queue order (R142). -/
def State.expireDue (s : State) : State :=
  if s.expiryAllowed then (s.dueQueue.filter s.isDue).foldl State.expireEntry s else s

/-! ## Changeover and drain end (R130, R131) -/

/-- The drain end is reached (R131). -/
def State.drainReached (s : State) : Bool :=
  match s.checker.drainEnd with
  | some d => decide (d * 1000000000 ≤ s.time.centre)
  | none => false

/-- The changeover instant is reached (R130). -/
def State.changeoverReached (s : State) : Bool :=
  match s.checker.schedule with
  | some c => decide (c.instant.nanos ≤ s.time.centre)
  | none => false

/-- The drain end is taken for a tag (R131). -/
def State.drainTag (s : State) (p : Period) : State :=
  let q := s.dueQueue.filter (fun e => decide (e.period = p))
  let s1 := s.setTag p .standby
  let s2 := { s1 with checker := { s1.checker with drainEnd := none } }
  let s3 := s2.note s2.capture (.stateDrainEnd p q.length)
  q.foldl (fun x e => x.withdraw e .drainEnd) s3

/-- The drain end, if one is held and reached (R131). -/
def State.takeDrainEnd (s : State) : State :=
  if s.drainReached then
    match s.tagIn .draining with
    | some p => s.drainTag p
    | none => s
  else s

/-- The tag that is not this one. -/
def Period.other : Period → Period
  | .a => .b
  | .b => .a

/-- The changeover, if one is scheduled and reached, and the drain end at once if that is reached too (R130). -/
def State.takeChangeover (s : State) : State :=
  match s.checker.schedule, s.tagIn .live with
  | some c, some p =>
    if s.changeoverReached then
      let drainEnd := c.instant.seconds + c.drain
      let s1 := (s.setTag p .draining).setTag p.other .live
      let s2 := { s1 with checker := { s1.checker with schedule := none, drainEnd := some drainEnd } }
      (s2.note s2.capture (.stateChangeover p p.other c.instant drainEnd)).takeDrainEnd
    else s
  | _, _ => s

/-! ## Requests on the store (R127, R129, R132 to R135) -/

/-- The tag of a code (R189: numbered from 1). -/
def periodOf : Nat → Option Period
  | 1 => some .a
  | 2 => some .b
  | _ => none

/-- The check kind of a code. -/
def checkOf : Nat → Option CheckKind
  | 1 => some .cleared
  | 2 => some .passed
  | _ => none

/-- An octet is one of the characters of a train tag (R126, R189). -/
def isTagOctet (b : Byte) : Bool :=
  (decide (0x30 ≤ b.toNat) && decide (b.toNat ≤ 0x39)) || (decide (0x41 ≤ b.toNat) && decide (b.toNat ≤ 0x5A))

/-- Every character of a train tag is allowed. -/
def tagValid (t : TrainTag) : Bool :=
  isTagOctet t.c0 && isTagOctet t.c1 && isTagOctet t.c2 && isTagOctet t.c3

end Sys2Proof.Machine
end

