-- ==== Sys2Proof/Machine/Flags.lean ====
section
/-! DEFINITION. The quality class of centre time: its hold and entry conditions, its evaluation and its entry
(R19, R20), with the expiry that a rise from Q4 releases (R142). -/

namespace Sys2Proof.Machine

open Sys2Proof

/-- What every condition of R19 requires: time set and no end-of-scale hold. -/
def State.timeTrusted (s : State) : Bool := s.time.timeSet && !s.time.held

/-- What Q1 requires beside its limit (R19). -/
def State.disciplined (s : State) : Bool := s.refs.selected.isSome && decide (s.time.mode = .fine)

/-- The uncertainty limit of a class in ns (R19, R24: L1 in us, L2 and L3 in ms). -/
def TimeConfig.limit (c : TimeConfig) : Quality → Nat
  | .q1 => c.l1 * 1000
  | .q2 => c.l2 * 1000000
  | .q3 => c.l3 * 1000000
  | .q4 => 0

/-- The hold condition of a class; Q4 has none (R19). -/
def State.holds (s : State) : Quality → Bool
  | .q1 => s.timeTrusted && s.disciplined && decide (s.time.u ≤ s.time.config.limit .q1)
  | .q2 => s.timeTrusted && decide (s.time.u ≤ s.time.config.limit .q2)
  | .q3 => s.timeTrusted && decide (s.time.u ≤ s.time.config.limit .q3)
  | .q4 => true

/-- The entry condition of a class: half its limit (R19). -/
def State.enters (s : State) : Quality → Bool
  | .q1 => s.timeTrusted && s.disciplined && decide (s.time.u ≤ s.time.config.limit .q1 / 2)
  | .q2 => s.timeTrusted && decide (s.time.u ≤ s.time.config.limit .q2 / 2)
  | .q3 => s.timeTrusted && decide (s.time.u ≤ s.time.config.limit .q3 / 2)
  | .q4 => true

/-- The best class that satisfies a condition; Q4 if none of the others does. -/
def bestClass (p : Quality → Bool) : Quality :=
  if p .q1 then .q1 else if p .q2 then .q2 else if p .q3 then .q3 else .q4

/-- The class that an evaluation gives (R19). -/
def State.classNow (s : State) : Quality :=
  let b := bestClass s.enters
  if b.rank < s.time.quality.rank then b
  else if s.holds s.time.quality then s.time.quality
  else bestClass s.holds

/-- The entry of a change of class (R20). -/
def State.qualityEntry (s : State) (old : Quality) : State :=
  let c := s.capture
  let b := EntryBody.timeQuality old s.time.quality s.time.u
  match s.time.quality with
  | .q3 => s.raise { kind := .qualityQ3, target := .time, capture := c, body := b }
  | .q4 => s.raise { kind := .qualityQ4, target := .time, capture := c, body := b }
  | .q1 => s.note c b
  | .q2 => s.note c b

/-- Evaluates the quality class; a change forms its entry (R19, R20). -/
def State.evalQuality (s : State) : State :=
  if s.classNow = s.time.quality then s
  else ({ s with time := { s.time with quality := s.classNow } }).qualityEntry s.time.quality

/-- Evaluates the quality class, and expires what a rise from Q4 makes due (R19, R142). -/
def State.settleQuality (s : State) : State :=
  let s1 := s.evalQuality
  if s.time.quality = .q4 ∧ s1.time.quality ≠ .q4 then s1.expireDue else s1

end Sys2Proof.Machine
end

