-- ==== Sys2Proof/Machine/TimeBase.lean ====
section
/-! DEFINITION. The time base: the accepted mark, holdover, the end of the scale, the local offset and the second-mark
output (spec/01). -/

namespace Sys2Proof.Machine

open Sys2Proof

/-- A value clamped to a range. -/
def clampInt (v lo hi : Int) : Int := max lo (min hi v)

/-! ## Instants in centre time that a move passes -/

/-- The pending offset change is reached (R22). -/
def State.offsetReached (s : State) : Bool :=
  match s.time.pendingOffset with
  | some o => decide (o.instant.nanos ≤ s.time.centre)
  | none => false

/-- The pending offset change takes effect, if it is reached (R22). -/
def State.takeOffset (s : State) : State :=
  match s.time.pendingOffset with
  | some o =>
    if s.offsetReached then
      ({ s with time := { s.time with localOffset := o.offset, pendingOffset := none } }).note s.capture
        (.timeOffsetChange s.time.localOffset o.offset (some o.instant))
    else s
  | none => s

/-- The owners of instants in centre time. -/
inductive InstantOwner where
  | offset | period | expiry
  deriving DecidableEq, Repr

/-- An owner has an instant that centre time has reached. -/
def State.instantReached (s : State) : InstantOwner → Bool
  | .offset => s.offsetReached
  | .period => s.changeoverReached || s.drainReached
  | .expiry => s.expiryAllowed && s.dueQueue.any s.isDue

/-- An owner takes its reached instants (R22, R130, R131, R142). -/
def State.takeInstant (s : State) (o : InstantOwner) : State :=
  match o with
  | .offset => s.takeOffset
  | .period => s.takeChangeover.takeDrainEnd
  | .expiry => s.expireDue

/-- The instants that a first set or a step passed are taken, in a free order (log 17). -/
def State.takePassed (s : State) : State :=
  let due := [InstantOwner.offset, .period, .expiry].filter s.instantReached
  (freePermutation due.length s.choices due).foldl State.takeInstant { s with choices := s.choices + due.length }

/-! ## The accepted mark (R8) -/

/-- What the reference selector hands the time base (section 1.5). -/
structure AcceptedMark where
  capture : Capture
  announced : Nat
  delay : Nat
  source : Source
  deriving DecidableEq, Repr

/-- The exact phase error (R9). -/
def AcceptedMark.eFull (m : AcceptedMark) : Int := ((m.capture.centre : Int) - m.delay) - m.announced

/-- The loop error, saturated (R9). -/
def AcceptedMark.e (m : AcceptedMark) : Int := clampInt m.eFull (-2147483647) 2147483647

/-- Moves centre time by −e, clamped to the end of the scale, where it is held (R2, R10, R12). A move that lands on the
last scale value itself is held at once too (the model's choice, log 42). -/
def State.moveCentre (s : State) (e : Int) : State :=
  let v := (s.time.centre : Int) - e
  if v < 0 then
    { s with
      time := { s.time with centre := Config.belowZero s.choices % Config.lastScale, held := false }
      choices := s.choices + 1 }
  else if (Config.lastScale : Int) ≤ v then
    { s with time := { s.time with centre := Config.lastScale, centreFrac := 0, held := true } }
  else { s with time := { s.time with centre := v.toNat, held := false } }

/-- The first set (R10), with its SET entry. -/
def State.firstSet (s : State) (m : AcceptedMark) : State :=
  let s1 := s.moveCentre m.eFull
  let s2 := { s1 with time :=
    { s1.time with epoch := min (s.time.epoch + 1) 65535, timeSet := true, mode := .fine, i := 0, c := 0, u := 0, stepCount := 0 } }
  s2.note s2.capture (.timeSet s.time.centre s2.time.centre m.eFull m.source s2.time.epoch)

/-- A step (R12), with its STEP entry. The GAP entry that precedes the STEP entry while a tally is open belongs to the old
epoch, so that the STEP entry is the first of the new one (R6, R151, R153; log 36). -/
def State.step_ (s : State) (m : AcceptedMark) : State :=
  let s1 := s.gapRule.moveCentre m.eFull
  let s2 := { s1 with time :=
    { s1.time with epoch := min (s.time.epoch + 1) 65535, u := 0, mode := .fine, stepCount := 0, c := s.time.i } }
  s2.note s2.capture (.timeStep s.time.centre s2.time.centre m.eFull m.source s2.time.epoch) true

/-- The step threshold in ns. -/
def TimeConfig.thresholdNs (c : TimeConfig) : Nat := c.stepThreshold * 1000000

/-- The step count after a mark (R11). -/
def State.countAfter (s : State) (m : AcceptedMark) : Nat :=
  if s.time.config.thresholdNs ≤ m.eFull.natAbs then min (s.time.stepCount + 1) 3 else 0

/-- A due step is permitted (R11). -/
def State.stepPermitted (s : State) : Bool :=
  s.time.config.stepPermit && (decide (s.service.state = .config) || s.time.config.stepInRun)
    && decide (s.time.epoch < 65535)

/-- The mode after the hysteresis (R14). -/
def TimeBase.hysteresis (t : TimeBase) (e : Int) : Mode :=
  match t.mode with
  | .fine => if t.config.fineExit * 1000 < e.natAbs then .slew else .fine
  | .slew => if e.natAbs < t.config.fineEntry * 1000 then .fine else .slew
  | .free => .free
  | .holdover => .holdover

/-- The FINE correction (R15). -/
def TimeBase.fineCorrection (t : TimeBase) (e : Int) : TimeBase :=
  let p := -(Int.tdiv e (2 ^ t.config.kp : Nat))
  let i := clampInt (t.i - Int.tdiv e (2 ^ t.config.ki : Nat)) (-50000) 50000
  { t with i := i, c := clampInt (p + i) (-50000) 50000 }

/-- The SLEW correction (R16). -/
def TimeBase.slewCorrection (t : TimeBase) (e : Int) : TimeBase :=
  { t with c := clampInt (t.i - e.sign * (t.config.slewRate : Int)) (-500000) 500000 }

/-- The correction of the mode in force (R15, R16). -/
def TimeBase.correct (t : TimeBase) (e : Int) : TimeBase :=
  match t.mode with
  | .fine => t.fineCorrection e
  | .slew => t.slewCorrection e
  | .free => t
  | .holdover => t

/-- A mark in FINE or SLEW that is no step: mode, correction and uncertainty (R13 to R18). `forced` is the forced slew. -/
def TimeBase.discipline (t : TimeBase) (m : AcceptedMark) (forced : Bool) (count : Nat) : TimeBase :=
  let t1 := { t with stepCount := count, mode := if forced then .slew else t.hysteresis m.e }
  let t2 := t1.correct m.e
  { t2 with u := min m.eFull.natAbs Config.maxU }

/-- What the accepted mark does before its quality evaluation; and whether centre time was moved (R8 to R18). -/
def State.markStages (s : State) (m : AcceptedMark) : State × Bool :=
  match s.time.mode with
  | .free => (s.firstSet m, true)
  | .holdover => (s, false)
  | .fine | .slew =>
    let n := s.countAfter m
    if n = 3 then
      if s.stepPermitted then (s.step_ m, true)
      else ({ s with time := s.time.discipline m true n }, false)
    else ({ s with time := s.time.discipline m false n }, false)

/-- An accepted mark (R8): its stages, one quality evaluation, and then the instants a move passed (the place of an offset
change, a changeover and a drain end after the evaluation is the model's choice, log 43). -/
def State.acceptedMark (s : State) (m : AcceptedMark) : State :=
  let r := s.markStages m
  if r.2 then r.1.evalQuality.takePassed
  else
    let s1 := r.1.evalQuality
    if s.time.quality = .q4 ∧ s1.time.quality ≠ .q4 then s1.expireDue else s1

/-! ## Holdover (R17) -/

/-- The time base enters HOLDOVER, with its entry; the quality evaluation follows (R17). -/
def State.enterHoldover (s : State) (last : Source) : State :=
  let s1 := { s with time :=
    { s.time with mode := .holdover, c := s.time.i, stepCount := 0, nextHoldover := some (s.time.elapsed + 1000000) } }
  s1.raise { kind := .holdover, target := .time, capture := s1.capture, body := .timeHoldover last s1.time.u s1.time.i }

/-- The selection of a source ends HOLDOVER (R17). -/
def TimeBase.endHoldover (t : TimeBase) : TimeBase :=
  match t.mode with
  | .holdover => { t with mode := .slew, nextHoldover := none }
  | _ => t

/-- A holdover second, if one is reached (R17, R18). -/
def State.holdoverSecond (s : State) : State :=
  match s.time.nextHoldover with
  | some d =>
    if d ≤ s.time.elapsed ∧ s.time.mode = .holdover then
      ({ s with time :=
        { s.time with u := min (s.time.u + s.time.config.holdDrift) Config.maxU, nextHoldover := some (d + 1000000) } }).settleQuality
    else s
  | none => s

/-! ## End of the scale and second mark (R2, R23) -/

/-- Centre time has reached the last nanosecond and is held there (R2). -/
def State.scaleEndHold (s : State) : State :=
  if s.time.centre = Config.lastScale ∧ s.time.held = false then
    ({ s with time := { s.time with held := true } }).settleQuality
  else s

/-- The second-mark output may pulse (R23). -/
def State.mayPulse (s : State) : Bool := s.time.timeSet && s.time.quality.qualifies

/-- A second boundary reached by advance (R23). -/
def State.secondMarkStart (s : State) : State :=
  if s.time.boundary then
    if s.mayPulse then
      { s with time :=
        { s.time with boundary := false, secondMark := true, secondMarkEnd := some (s.time.elapsed + 100000) } }
    else { s with time := { s.time with boundary := false } }
  else s

/-- The second-mark pulse falls (R23). -/
def State.secondMarkFall (s : State) : State :=
  if s.reached s.time.secondMarkEnd then
    { s with time := { s.time with secondMark := false, secondMarkEnd := none } }
  else s

/-! ## Local offset (R21) -/

/-- SET LOCAL OFFSET is judged (R21). -/
def judgeLocalOffset (offset : Option Int) (at_ : Option Instant) : Result :=
  match offset, at_ with
  | none, some _ => .refusedArgument
  | none, none => .done
  | some o, none => if o < -720 ∨ 840 < o then .refusedArgument else .done
  | some o, some i => if o < -720 ∨ 840 < o ∨ 86400 ≤ i.second then .refusedArgument else .done

/-- SET LOCAL OFFSET takes effect (R21, R22). -/
def State.setLocalOffset (s : State) (offset : Option Int) (at_ : Option Instant) : State :=
  match offset, at_ with
  | none, _ => { s with time := { s.time with pendingOffset := none } }
  | some o, none =>
    ({ s with time := { s.time with localOffset := o, pendingOffset := none } }).note s.capture
      (.timeOffsetChange s.time.localOffset o none)
  | some o, some i =>
    ({ s with time := { s.time with pendingOffset := some { offset := o, instant := i } } }).takeOffset

end Sys2Proof.Machine
end

