-- ==== Sys2Proof/Machine/References.lean ====
section
/-! DEFINITION. The reference selector: messages, marks, qualification, selection, RING marks, and SET TIME
CONFIGURATION (spec/02, R24). -/

namespace Sys2Proof.Machine

open Sys2Proof

/-! ## Selection (R34 to R38) -/

/-- A source is QUALIFIED. -/
def State.isQualified (s : State) (x : Source) : Bool := decide ((s.source x).state = .qualified)

/-- The configured priority of a source. -/
def State.priority (s : State) (x : Source) : Nat := (s.time.config.source x).priority

/-- The sources. -/
def allSources : List Source := [.ref1, .ref2, .ring]

/-- The highest-priority member of a list of sources. -/
def State.preferred (s : State) : List Source → Option Source
  | [] => none
  | x :: xs =>
    match s.preferred xs with
    | none => some x
    | some y => if s.priority y < s.priority x then some y else some x

/-- The highest-priority QUALIFIED source (R34, R35). -/
def State.bestQualified (s : State) : Option Source := s.preferred (allSources.filter s.isQualified)

/-- The revert instant of a source (R36). -/
def State.revertAt (s : State) (x : Source) : Option Nat :=
  (s.source x).qualifiedSince.map (fun q => q + s.time.config.revertHold * 1000000)

/-- A source is QUALIFIED, of higher priority than the selected one, and at its revert instant (R36). -/
def State.mayRevert (s : State) (x : Source) : Bool :=
  match s.refs.selected with
  | some y => s.isQualified x && decide (s.priority x < s.priority y) && s.reached (s.revertAt x)
  | none => false

/-- The selection moves to a source: step count 0, the end of HOLDOVER, and the SOURCE CHANGE entry (R11, R17, R38). -/
def State.select (s : State) (x : Source) (r : SelectReason) : State :=
  let t := { s.time.endHoldover with stepCount := 0 }
  let s1 := { s with time := t, refs := { s.refs with selected := some x } }
  s1.raise
    { kind := .sourceChange, target := .time, capture := s1.capture, body := .timeSourceChange s.refs.selected (some x) r }

/-- The selected source is lost with none to take its place: HOLDOVER, or with time unset a SOURCE CHANGE entry with
reason LOST (R34, R38, R17). -/
def State.loseSelection (s : State) (x : Source) : State :=
  let s1 := { s with time := { s.time with stepCount := 0 }, refs := { s.refs with selected := none } }
  if s.time.timeSet then s1.enterHoldover x
  else
    s1.raise
      { kind := .sourceChange, target := .time, capture := s1.capture, body := .timeSourceChange (some x) none .lost }

/-- The selection is evaluated (R34, R35, R36). `configured` marks a configuration commit, whose changes carry that
reason (R38). Of several sources at their revert instants the most preferred displaces at once (log 44). A revert instant
already reached when a good mark is handled displaces within the mark's own event (R37; log 53). -/
def State.evalSelection (s : State) (configured : Bool) : State :=
  match s.refs.selected with
  | some x =>
    if s.isQualified x then
      match s.preferred (allSources.filter s.mayRevert) with
      | some y => s.select y (if configured then .configured else .revert)
      | none => s
    else
      match s.bestQualified with
      | some y => s.select y (if configured then .configured else .lost)
      | none => s.loseSelection x
  | none =>
    match s.bestQualified with
    | some y => s.select y (if configured then .configured else .qualified)
    | none => s

/-! ## Qualification (R33) -/

/-- A good mark moves a source's state and counts (R33). `now` is the elapsed count at the event. -/
def SourceState.goodMark (x : SourceState) (nQual now : Nat) : SourceState :=
  match x.state with
  | .absent | .disqualified => { x with state := .qualifying, good := 1, bad := 0 }
  | .qualifying =>
    let g := min (x.good + 1) 255
    if nQual ≤ g then { x with state := .qualified, good := g, bad := 0, qualifiedSince := some now }
    else { x with good := g, bad := 0 }
  | .qualified => { x with good := min (x.good + 1) 255, bad := 0 }

/-- A bad or missing mark moves a source's state and counts (R33). -/
def SourceState.badMark (x : SourceState) (nDisq : Nat) : SourceState :=
  match x.state with
  | .absent => { x with previousGood := none }
  | .qualifying | .qualified =>
    let b := min (x.bad + 1) nDisq
    if nDisq ≤ b then
      { x with state := .disqualified, good := 0, bad := b, previousGood := none, qualifiedSince := none }
    else { x with good := 0, bad := b, previousGood := none }
  | .disqualified => { x with good := 0, previousGood := none }

/-- A bad mark of a source is handled (R33 to R35, R19). -/
def State.badMark (s : State) (x : Source) : State :=
  let s1 := (s.setSource x ((s.source x).badMark s.time.config.nDisq)).evalSelection false
  if s1.refs.selected = s.refs.selected then s1 else s1.settleQuality

/-- A good mark of a source is handled in the order of R37. -/
def State.goodMark (s : State) (m : AcceptedMark) : State :=
  let x := (s.source m.source).goodMark s.time.config.nQual s.time.elapsed
  let y := if m.source = .ring then x else { x with previousGood := some m.announced }
  let s1 := (s.setSource m.source y).evalSelection false
  if s1.refs.selected = some m.source then s1.acceptedMark m
  else if s1.refs.selected = s.refs.selected then s1 else s1.settleQuality

/-! ## Absence and missing marks (R28, R31) -/

/-- Removes what RING remembers of the last second, when the source is RING (R28). -/
def State.forgetRing (s : State) (x : Source) : State :=
  match x with
  | .ring => { s with refs := { s.refs with lastRingSecond := none } }
  | _ => s

/-- The source becomes ABSENT at its absence deadline (R28). -/
def State.becomeAbsent (s : State) (x : Source) : State :=
  let s1 := ((s.setSource x .absent).forgetRing x).evalSelection false
  if s1.refs.selected = s.refs.selected then s1 else s1.settleQuality

/-- The absence deadline, if it is reached (R28). -/
def State.absenceDeadline (s : State) (x : Source) : State :=
  if s.reached (s.source x).absenceDeadline then s.becomeAbsent x else s

/-- Renews the absence deadline of a source (R28). -/
def State.renewAbsence (s : State) (x : Source) : State :=
  s.setSource x { s.source x with absenceDeadline := some (s.time.elapsed + 3000000) }

/-- The mark deadline, if it is reached: a missing mark, and the deadline 1.5 s later (R31). -/
def State.markDeadline (s : State) (x : Source) : State :=
  match (s.source x).markDeadline with
  | some d =>
    if d ≤ s.time.elapsed then
      (s.setSource x { s.source x with markDeadline := some (d + 1500000) }).badMark x
    else s
  | none => s

/-- The revert instant of a source, if it is reached (R36). -/
def State.revertInstant (s : State) (x : Source) : State :=
  if s.mayRevert x then (s.select x .revert).settleQuality else s

/-! ## The wired references (R27, R29, R30) -/

/-- The status of a message octet (R194). -/
def messageStatusOf : Nat → Option MessageStatus
  | 1 => some .ok
  | 2 => some .degraded
  | 3 => some .unlocked
  | _ => none

/-- The contents of a complete message, if it is valid (R27, R194). -/
def messageContents (o : List Byte) : Option MessageContents :=
  let second := number ((o.drop 3).take 3)
  match messageStatusOf (number ((o.drop 6).take 1)) with
  | some st =>
    if number ((o.drop 11).take 1) = 0x5A ∧ number ((o.drop 9).take 2) = (crc16 ((o.drop 1).take 8)).toNat
        ∧ second ≤ 86399 then
      some { day := number ((o.drop 1).take 2), second := second, status := st, counter := number ((o.drop 7).take 1) }
    else none
  | none => none

/-- The source is enabled (R26, R39). -/
def State.enabled (s : State) (x : Source) : Bool := (s.time.config.source x).enable

/-- A complete message replaces the held message, and a valid one renews absence (R27, R28). -/
def State.completeMessage (s : State) (w : Wired) (o : List Byte) : State :=
  let c := messageContents o
  let s1 := s.setWired w
    { s.wired w with message := some { arrived := s.time.elapsed, contents := c }, collected := [], octetEnd := s.time.elapsed }
  if c.isSome then s1.renewAbsence w.source else s1

/-- The start octet of a message (R194). -/
def startOctet : Byte := 0xA5

/-- A whole message arrives: twelve octets beginning with the start octet (R27). -/
def State.referenceMessage (s : State) (w : Wired) (o : List Byte) : State :=
  if s.enabled w.source ∧ o.length = 12 ∧ o.head? = some startOctet then s.completeMessage w o else s

/-- More than 5 ms lie between the last octet's stop bit and the start bit of an octet that ends now (R27; log 21). -/
def State.octetLate (s : State) (w : Wired) : Bool :=
  decide ((s.wired w).octetEnd + 5000 + Config.octetMicros < s.time.elapsed)

/-- An octet arrives on a message line (R27). -/
def State.messageOctet (s : State) (w : Wired) (b : Byte) : State :=
  if s.enabled w.source then
    let held := if s.octetLate w then [] else (s.wired w).collected
    if held.isEmpty && decide (b ≠ startOctet) then
      s.setWired w { s.wired w with collected := [] }
    else
      let o := held ++ [b]
      if o.length = 12 then s.completeMessage w o
      else s.setWired w { s.wired w with collected := o, octetEnd := s.time.elapsed }
  else s

/-- The partial message is discarded and the receiver hunts again (R27). -/
def State.dropPartial (s : State) (w : Wired) : State := s.setWired w { s.wired w with collected := [] }

/-- More than 5 ms have passed since the last octet (R27). -/
def State.octetTimeout (s : State) (w : Wired) : State :=
  if (s.wired w).collected ≠ [] ∧ (s.wired w).octetEnd + 5000 < s.time.elapsed then s.dropPartial w else s

/-- A leading edge on a mark line (R29). -/
def State.leadingEdge (s : State) (w : Wired) : State :=
  if (s.wired w).lineActive then s
  else if s.enabled w.source then
    let c := s.capture
    let s1 := s.setWired w
      { s.wired w with lineActive := true, mark := some { capture := c, message := (s.wired w).message } }
    if (s.source w.source).state = .absent then s1
    else s1.setSource w.source { s1.source w.source with markDeadline := some (c.elapsed + 1500000) }
  else s.setWired w { s.wired w with lineActive := true }

/-- The announced time of a message, as a scale value in ns (R30). -/
def MessageContents.announced (c : MessageContents) : Nat := c.day * Config.nsPerDay + c.second * 1000000000

/-- The continuity condition of R30. -/
def SourceState.continues (x : SourceState) (announced : Nat) : Bool :=
  decide (x.good = 0) || decide (x.previousGood.map (· + 1000000000) = some announced)

/-- The announced time of a mark that is good by R30; none for a bad mark. That `between` 10 000 and 990 000 us takes in both
ends is the model's choice (log 62). -/
def State.markGood (s : State) (x : Source) (m : MarkInProgress) (width : Nat) : Option Nat :=
  match m.message with
  | some h =>
    match h.contents with
    | some c =>
      let lead := m.capture.elapsed - h.arrived
      if c.status = .ok ∧ 10000 ≤ lead ∧ lead ≤ 990000 ∧ 5000 ≤ width ∧ width ≤ 500000
          ∧ (s.source x).continues c.announced = true then some c.announced
      else none
    | none => none
  | none => none

/-- A mark is judged with a width, and removed (R29, R30, R33, R37). -/
def State.judgeMark (s : State) (w : Wired) (m : MarkInProgress) (width : Nat) : State :=
  let s1 := s.setWired w { s.wired w with mark := none }
  match s.markGood w.source m width with
  | some t =>
    s1.goodMark { capture := m.capture, announced := t, delay := (s.time.config.source w.source).delay, source := w.source }
  | none => s1.badMark w.source

/-- A trailing edge on a mark line (R29, R30). -/
def State.trailingEdge (s : State) (w : Wired) : State :=
  let s1 := s.setWired w { s.wired w with lineActive := false }
  match (s.wired w).mark with
  | some m => s1.judgeMark w m (s.time.elapsed - m.capture.elapsed)
  | none => s1

/-- The width limit, if it is passed: the mark is judged over 500 ms wide (R29). -/
def State.widthLimit (s : State) (w : Wired) : State :=
  match (s.wired w).mark with
  | some m => if m.capture.elapsed + 500000 < s.time.elapsed then s.judgeMark w m 500001 else s
  | none => s

/-! ## The RING source (R32) -/

/-- A TIME telegram's fields as RING reads them (R190, R192). -/
structure TimeSlot where
  filled : Bool
  master : Nat
  day : Nat
  nanos : Nat
  quality : Nat
  deriving DecidableEq, Repr

/-- Reads a TIME body; a body that is not 14 octets or whose flag is no flag is an unfilled slot (R192). -/
def timeSlot (b : List Byte) : TimeSlot :=
  { filled := decide (b.length = 14) && decide (number (b.take 1) = 1)
    master := number ((b.drop 1).take 2)
    day := number ((b.drop 3).take 2)
    nanos := number ((b.drop 5).take 6)
    quality := number ((b.drop 13).take 1) }

/-- The day and second of a slot, when its nanoseconds lie within the day (R192). -/
def TimeSlot.second (t : TimeSlot) : Option (Nat × Nat) :=
  if t.nanos < Config.nsPerDay then some (t.day, t.nanos / 1000000000) else none

/-- The slot was filled by the followed master (R32). -/
def State.followed (s : State) (t : TimeSlot) : Bool := t.filled && decide (t.master = s.time.config.masterAddress)

/-- A slot of the followed master repeats the last ring second and is passed over (R32). That R192's bad RING mark, a quality
code outside 0x01 to 0x04, is passed over too when it repeats is the model's choice (log 61). -/
def State.repeatsSecond (s : State) (t : TimeSlot) : Bool :=
  s.followed t && t.second.isSome && decide (t.second = s.refs.lastRingSecond)

/-- The slot is a good RING mark (R32). -/
def State.goodSlot (s : State) (t : TimeSlot) : Bool :=
  s.followed t && t.second.isSome && (decide (t.quality = 1) || decide (t.quality = 2))

/-- A TIME telegram taken as a mark (R32). -/
def State.ringMark (s : State) (t : TimeSlot) (c : Capture) : State :=
  let s1 := if s.refs.ring.state = .absent then s
    else s.setSource .ring { s.refs.ring with markDeadline := some (c.elapsed + 1500000) }
  let s2 := if s.followed t && t.second.isSome then { s1 with refs := { s1.refs with lastRingSecond := t.second } } else s1
  if s.goodSlot t then
    s2.goodMark { capture := c, announced := t.day * Config.nsPerDay + t.nanos, delay := s.time.config.ring.delay, source := .ring }
  else s2.badMark .ring

/-- A TIME telegram committed in a processed frame (R28, R32). -/
def State.ringTelegram (s : State) (body : List Byte) (c : Capture) : State :=
  if s.enabled .ring then
    let t := timeSlot body
    let s1 := if s.followed t then s.renewAbsence .ring else s
    if s.repeatsSecond t then s1 else s1.ringMark t c
  else s

/-! ## SET TIME CONFIGURATION (R24, R39, R40) -/

/-- A flag octet (R189). -/
def flagOf : Nat → Option Bool
  | 0 => some false
  | 1 => some true
  | _ => none

/-- A value clamped to a range. -/
def clampNat (v lo hi : Nat) : Nat := max lo (min hi v)

/-- A source's settings, its flag read and its delay clamped. -/
def settingOf (p : SourceParams) (hi : Nat) : SourceSetting :=
  { enable := decide (p.enable = 1), priority := p.priority, delay := min hi p.delay }

/-- The configuration a request leaves, after clamping (R24, R39). -/
def TimeConfig.ofParams (p : TimeConfigParams) : TimeConfig :=
  { stepThreshold := clampNat p.stepThreshold 1 1000
    stepPermit := decide (p.stepPermit = 1)
    stepInRun := decide (p.stepInRun = 1)
    fineEntry := clampNat p.fineEntry 10 50000
    fineExit := min 100000 p.fineExit
    kp := clampNat p.kp 1 8
    ki := clampNat p.ki 2 16
    slewRate := clampNat p.slewRate 10000 400000
    holdDrift := clampNat p.holdDrift 1 100000
    l1 := p.l1
    l2 := p.l2
    l3 := p.l3
    ref1 := settingOf p.ref1 100000
    ref2 := settingOf p.ref2 100000
    ring := settingOf p.ring 1000000
    nQual := clampNat p.nQual 3 60
    nDisq := clampNat p.nDisq 1 10
    revertHold := min 600 p.revertHold
    masterEnable := decide (p.masterEnable = 1)
    masterAddress := p.masterAddress }

/-- No numeric value of the request was clamped (R24, R39). -/
def TimeConfig.unclamped (c : TimeConfig) (p : TimeConfigParams) : Bool :=
  decide (c.stepThreshold = p.stepThreshold) && decide (c.fineEntry = p.fineEntry) && decide (c.fineExit = p.fineExit)
    && decide (c.kp = p.kp) && decide (c.ki = p.ki) && decide (c.slewRate = p.slewRate)
    && decide (c.holdDrift = p.holdDrift) && decide (c.ref1.delay = p.ref1.delay)
    && decide (c.ref2.delay = p.ref2.delay) && decide (c.ring.delay = p.ring.delay) && decide (c.nQual = p.nQual)
    && decide (c.nDisq = p.nDisq) && decide (c.revertHold = p.revertHold)

/-- Every flag octet of the request is a flag (R189; log 24). -/
def timeFlagsValid (p : TimeConfigParams) : Bool :=
  [p.stepPermit, p.stepInRun, p.ref1.enable, p.ref2.enable, p.ring.enable, p.masterEnable].all
    (fun v => (flagOf v).isSome)

/-- The rules of R24 and R39 that refuse a request with REFUSED_ARGUMENT, after clamping. -/
def TimeConfig.acceptable (c : TimeConfig) (station : Nat) : Bool :=
  decide (c.fineEntry < c.fineExit) && decide (c.kp < c.ki) && [100, 250, 500, 1000].contains c.l1
    && [2, 5, 10, 20].contains c.l2 && [50, 100, 200, 500].contains c.l3
    && [c.ref1.priority, c.ref2.priority, c.ring.priority].all (fun v => decide (1 ≤ v) && decide (v ≤ 3))
    && decide (c.ref1.priority ≠ c.ref2.priority) && decide (c.ref1.priority ≠ c.ring.priority)
    && decide (c.ref2.priority ≠ c.ring.priority) && decide (0xF000 ≤ c.masterAddress)
    && decide (c.masterAddress ≤ 0xF0FF) && !(c.masterEnable && c.ring.enable)
    && !(c.ring.enable && decide (c.masterAddress = station))

/-- SET TIME CONFIGURATION is judged (R24, R39). -/
def State.judgeTimeConfig (s : State) (p : TimeConfigParams) : Result :=
  let c := TimeConfig.ofParams p
  if s.service.state = .run then .refusedState
  else if !(timeFlagsValid p && c.acceptable s.service.stationAddress) then .refusedArgument
  else if c.unclamped p then .done
  else .doneClamped

/-- A source's bad count after a new N_DISQ (R40). -/
def SourceState.cutBad (x : SourceState) (nDisq : Nat) : SourceState :=
  match x.state with
  | .disqualified => { x with bad := nDisq }
  | _ => { x with bad := min x.bad nDisq }

/-- A source's state after a commit that gives it these settings: ABSENT when disabled or newly enabled (R40). -/
def SourceState.reconfigure (x : SourceState) (before after : Bool) (nDisq : Nat) : SourceState :=
  if before && after then x.cutBad nDisq else .absent

/-- The lines of a wired reference after a commit: mark, message and partial message go when it is not kept enabled
(R40). -/
def WiredState.reconfigure (x : WiredState) (before after : Bool) : WiredState :=
  if before && after then x else { x with mark := none, message := none, collected := [] }

/-- RING is kept through the commit: enabled before and after, with the same MASTER_ADDRESS (R40). -/
def TimeConfig.keepsRing (old new : TimeConfig) : Bool :=
  old.ring.enable && new.ring.enable && decide (old.masterAddress = new.masterAddress)

/-- The selector after the new settings, before the selection is evaluated (R40). -/
def Selector.reconfigure (r : Selector) (old new : TimeConfig) : Selector :=
  { r with
    ref1 := r.ref1.reconfigure old.ref1.enable new.ref1.enable new.nDisq
    ref2 := r.ref2.reconfigure old.ref2.enable new.ref2.enable new.nDisq
    ring := r.ring.reconfigure (old.keepsRing new) true new.nDisq
    wired1 := r.wired1.reconfigure old.ref1.enable new.ref1.enable
    wired2 := r.wired2.reconfigure old.ref2.enable new.ref2.enable
    lastRingSecond := if old.keepsRing new then r.lastRingSecond else none }

/-- SET TIME CONFIGURATION takes effect (R24, R40): the selection is evaluated once, with the new priorities (log 54). -/
def State.setTimeConfig (s : State) (p : TimeConfigParams) : State :=
  let c := TimeConfig.ofParams p
  let s1 := { s with time := { s.time with config := c }, refs := s.refs.reconfigure s.time.config c }
  (s1.evalSelection true).settleQuality

end Sys2Proof.Machine
end

