-- ==== Sys2Proof/Machine/Lines.lean ====
section
/-! DEFINITION. The clock lines: target, pulse rule, ends of a pulse, escalation, and SET CLOCK LINE (spec/10). -/

namespace Sys2Proof.Machine

open Sys2Proof

/-- Changes a clock line. -/
def State.modifyLine (s : State) (l : LineId) (f : Line → Line) : State := s.setLine l (f (s.line l))

/-! ## Target (R167) -/

/-- Positions of a dial for a step size (R164). -/
def positions (step : Nat) : Nat := 43200 / step

/-- Centre second of day (R167). -/
def TimeBase.secondOfDay (t : TimeBase) : Nat := t.centre % Config.nsPerDay / 1000000000

/-- Local seconds of day (R167). -/
def TimeBase.localSeconds (t : TimeBase) : Nat := (((t.secondOfDay : Int) + 60 * t.localOffset) % 86400).toNat

/-- The dial position that local time calls for (R167). -/
def TimeBase.target (t : TimeBase) (step : Nat) : Nat := t.localSeconds % 43200 / step

/-- The wait limit in dial positions (R167). -/
def Line.waitPositions (x : Line) : Nat := x.wait * 60 / x.step

/-- Positions by which the hands at `shown` are behind a target (R167). -/
def behind (target shown step : Nat) : Nat := (target + positions step - shown) % positions step

/-! ## The pulse rule (R168) -/

/-- The fast interval since the last pulse start has passed (R168). -/
def State.fastPassed (s : State) (x : Line) : Bool :=
  match x.lastStart with
  | none => true
  | some t => decide (t + x.fast * 1000 ≤ s.time.elapsed)

/-- The hands are behind, and outside the wait band (R168). -/
def State.asksPulse (s : State) (x : Line) : Bool :=
  match x.shown with
  | none => false
  | some p =>
    let d := behind (s.time.target x.step) p x.step
    decide (1 ≤ d) && decide (d + x.waitPositions + 1 ≤ positions x.step)

/-- Every condition of R168 holds. -/
def State.mayStart (s : State) (l : LineId) : Bool :=
  let x := s.line l
  decide (x.state = .running) && s.time.timeSet && x.pulse.isNone && s.fastPassed x && s.asksPulse x

/-- The line escalates at its third short (R172). -/
def State.escalate (s : State) (l : LineId) (c : Capture) : State :=
  let first := (s.latchOf (.line l)).isNone
  let x := s.line l
  let s1 := (s.modifyLine l (fun x => { x with state := .latchedOff })).latch (.line l) .escalated c
  s1.attempt { Draft.plain c (.lineEscalated l x.shown x.shortCount x.retry) true with latch := first }

/-- A pulse is ended by overcurrent (R171); its length in the entry is in whole ms, truncated (log 51). -/
def State.short (s : State) (l : LineId) (p : Pulse) : State :=
  let c := s.capture
  let n := (s.line l).shortCount + 1
  let s1 := s.modifyLine l (fun x => { x with drive := false, pulse := none, shortCount := n })
  let s2 := s1.raise
    { kind := .lineShort, target := .line l, capture := c,
      body := .lineShort l (s.line l).shown p.polarity ((c.elapsed - p.start) / 1000) n }
  if n < 3 then
    s2.modifyLine l (fun x => { x with state := .retry, retryDeadline := some (c.elapsed + x.retry * 1000000) })
  else s2.escalate l c

/-- Overcurrent acts on a pulse in flight (R171). -/
def State.senseShort (s : State) (l : LineId) : State :=
  match (s.line l).pulse with
  | some p => if (s.line l).overCurrent then s.short l p else s
  | none => s

/-- The line with its pulse begun (R168). -/
def Line.begin (x : Line) (p : Polarity) (now : Nat) : Line :=
  { x with
    bridge := p
    drive := true
    lastStart := some now
    pulse := some { polarity := p, start := now, deadline := now + x.width * 1000, currentSeen := x.current } }

/-- The line starts a pulse when R168 allows it. -/
def State.startPulse (s : State) (l : LineId) : State :=
  match (s.line l).polarity with
  | some p =>
    if s.mayStart l then (s.modifyLine l (fun x => x.begin p.opposite s.time.elapsed)).senseShort l else s
  | none => s

/-! ## Sense inputs (R168, R171) -/

/-- The current-present input takes a level (R168). -/
def State.senseCurrent (s : State) (l : LineId) (active : Bool) : State :=
  s.modifyLine l (fun x =>
    { x with current := active, pulse := x.pulse.map (fun p => { p with currentSeen := p.currentSeen || active }) })

/-- The overcurrent input takes a level (R171). -/
def State.senseOvercurrent (s : State) (l : LineId) (active : Bool) : State :=
  (s.modifyLine l (fun x => { x with overCurrent := active })).senseShort l

/-! ## The end of a pulse (R169, R170) -/

/-- The line after a delivered pulse (R169). -/
def Line.delivered (x : Line) (p : Pulse) : Line :=
  { x with
    drive := false
    pulse := none
    shown := x.shown.map (fun n => (n + 1) % positions x.step)
    polarity := some p.polarity
    shortCount := 0
    openReported := false }

/-- The pulse found the line open (R170). -/
def State.openPulse (s : State) (l : LineId) (p : Pulse) : State :=
  let x := s.line l
  let s1 := s.modifyLine l (fun x => { x with drive := false, pulse := none, openReported := true })
  if x.openReported then s1
  else
    s1.raise
      { kind := .lineOpen, target := .line l, capture := s.capture,
        body := .lineOpen l x.shown (s.time.target x.step) p.polarity }

/-- The end deadline of a pulse in flight, if it is reached (R169, R170). -/
def State.endPulse (s : State) (l : LineId) : State :=
  match (s.line l).pulse with
  | some p =>
    if p.deadline ≤ s.time.elapsed then
      if p.currentSeen then s.modifyLine l (fun x => x.delivered p) else s.openPulse l p
    else s
  | none => s

/-- The retry deadline, if it is reached (R171). -/
def State.endRetry (s : State) (l : LineId) : State :=
  if s.reached (s.line l).retryDeadline then
    s.modifyLine l (fun x => { x with state := .running, retryDeadline := none })
  else s

/-- ACKNOWLEDGE ALARM releases a line from LATCHED_OFF (R173). -/
def Line.release (x : Line) : Line :=
  match x.state with
  | .latchedOff => { x with shortCount := 0, state := if x.enable then .running else .hold }
  | _ => x

/-! ## SET CLOCK LINE (R165, R166) -/

/-- The line of a number (R165). -/
def lineOf : Nat → Option LineId
  | 1 => some .one
  | 2 => some .two
  | _ => none

/-- The polarity of a code (the codes are the model's choice, log 60). -/
def polarityOf : Nat → Option Polarity
  | 1 => some .positive
  | 2 => some .negative
  | _ => none

/-- A given field, clamped, or the held value (R165). -/
def keepOr (v : Option Nat) (held lo hi : Nat) : Nat :=
  match v with
  | none => held
  | some n => clampNat n lo hi

/-- A given flag or the held one. -/
def keepFlag (v : Option Nat) (held : Bool) : Bool :=
  match v with
  | none => held
  | some n => decide (n = 1)

/-- A given shown position or the held one. -/
def keepShown (v held : Option Nat) : Option Nat := if v.isSome then v else held

/-- A given polarity or the held one. -/
def keepPolarity (v : Option Nat) (held : Option Polarity) : Option Polarity :=
  match v with
  | none => held
  | some n => polarityOf n

/-- The settings that the request leaves in force, the fast interval raised (R165, R166). -/
def Line.configure (x : Line) (p : ClockLineParams) : Line :=
  let w := keepOr p.width x.width 100 2000
  { x with
    enable := keepFlag p.enable x.enable
    step := p.step.getD x.step
    shown := keepShown p.shown x.shown
    polarity := keepPolarity p.polarity x.polarity
    width := w
    fast := max (keepOr p.fast x.fast 1000 10000) (w + 200)
    wait := keepOr p.wait x.wait 0 120
    retry := keepOr p.retry x.retry 5 300 }

/-- The line state after the request (R166). -/
def Line.stateAfter (x : Line) (enable : Bool) : LineState :=
  match x.state, enable with
  | .hold, true => .running
  | .hold, false => .hold
  | .running, true => .running
  | .running, false => .hold
  | .retry, true => .retry
  | .retry, false => .hold
  | .latchedOff, _ => .latchedOff

/-- An optional code is in its set. -/
def optionIn (v : Option Nat) (f : Nat → Bool) : Bool :=
  match v with
  | none => true
  | some n => f n

/-- The fields that R165 checks, against the line as held. -/
def Line.acceptsFields (x : Line) (p : ClockLineParams) : Bool :=
  optionIn p.enable (fun n => (flagOf n).isSome) && optionIn p.step (fun n => decide (n = 30) || decide (n = 60))
    && optionIn p.polarity (fun n => (polarityOf n).isSome)
    && optionIn p.shown (fun n => decide (n < positions (p.step.getD x.step)))

/-- No case of R165 refuses the request for this line. -/
def Line.accepts (x : Line) (p : ClockLineParams) : Bool :=
  let y := x.configure p
  x.acceptsFields p && (decide (y.step = x.step) || p.shown.isSome)
    && (!y.enable || (y.shown.isSome && y.polarity.isSome))

/-- A given value lies outside its range (R165). -/
def givenClamped (v : Option Nat) (lo hi : Nat) : Bool :=
  match v with
  | none => false
  | some n => decide (clampNat n lo hi ≠ n)

/-- A value was clamped, or the fast interval raised (R165). -/
def Line.clampedBy (x : Line) (p : ClockLineParams) : Bool :=
  givenClamped p.width 100 2000 || givenClamped p.fast 1000 10000 || givenClamped p.wait 0 120
    || givenClamped p.retry 5 300
    || decide (keepOr p.fast x.fast 1000 10000 < keepOr p.width x.width 100 2000 + 200)

/-- SET CLOCK LINE is judged (R165). -/
def State.judgeClockLine (s : State) (p : ClockLineParams) : Result :=
  match lineOf p.line with
  | none => .refusedArgument
  | some l =>
    if (s.line l).accepts p then (if (s.line l).clampedBy p then .doneClamped else .done) else .refusedArgument

/-- The request cuts a pulse in flight (R166). -/
def Line.cutBy (x : Line) (p : ClockLineParams) : Bool :=
  p.shown.isSome || p.polarity.isSome || decide ((x.configure p).step ≠ x.step) || (x.enable && !(x.configure p).enable)

/-- Two lines hold the same settings, shown position and polarity (R166). -/
def Line.sameValues (x y : Line) : Bool :=
  decide (x.enable = y.enable) && decide (x.step = y.step) && decide (x.shown = y.shown)
    && decide (x.polarity = y.polarity) && decide (x.width = y.width) && decide (x.fast = y.fast)
    && decide (x.wait = y.wait) && decide (x.retry = y.retry)

/-- The line after the request: pulse, settings, line state (R166). -/
def Line.apply (x : Line) (p : ClockLineParams) : Line :=
  let y := x.configure p
  let cut := x.pulse.isSome && x.cutBy p
  { y with
    drive := if cut then false else x.drive
    pulse := if cut then none else x.pulse
    state := x.stateAfter y.enable
    retryDeadline := if x.stateAfter y.enable = .retry then x.retryDeadline else none }

/-- SET CLOCK LINE takes effect (R166). -/
def State.setClockLine (s : State) (p : ClockLineParams) : State :=
  match lineOf p.line with
  | none => s
  | some l =>
    let x := s.line l
    let y := x.apply p
    let s1 := s.setLine l y
    if x.sameValues y then s1
    else s1.note s1.capture (.lineSet l x.shown y.shown x.polarity y.polarity y.enable y.step y.state)

end Sys2Proof.Machine
end

