-- ==== Sys2Proof/Machine/Movement.lean ====
section
/-! DEFINITION. Point movement supervision: the movement context, its deadlines, its faults and outcomes (spec/06). -/

namespace Sys2Proof.Machine

open Sys2Proof

/-! ## Contexts -/

/-- Changes the point fields of the record at an address. -/
def State.modifyPoint (s : State) (a : Nat) (f : PointPart → PointPart) : State :=
  s.modifyElement a (fun r => r.mapPoint f)

/-- Writes the movement context of the record at an address. -/
def State.setMovement (s : State) (a : Nat) (m : Option Movement) : State :=
  s.modifyPoint a (fun p => { p with movement := m })

/-- The last detected position, absent when stale (R94, R97). -/
def ElementRecord.detected (r : ElementRecord) : Option Detected :=
  match fresh r.lastStatus with
  | some (.detected d) => some d
  | _ => none

/-- The commanded target, absent when stale (R106). -/
def ElementRecord.commandedTarget (r : ElementRecord) : Option Target :=
  match fresh r.lastCommand with
  | some (.target t) => some t
  | _ => none

/-- The MOVEMENT entry of a movement (R108). -/
def Movement.entry (m : Movement) (a : Nat) (o : MovementOutcome) (duration : Option Nat) (fault : Option ActionKind) :
    MovementEntry :=
  { element := a, outcome := o, target := m.target, origin := m.origin, command := m.command.stamp,
    leave := m.leave.map (·.stamp), arrival := m.arrival.map (·.stamp), duration := duration, bounces := m.bounces,
    fault := fault }

/-- A movement ends: its context goes, and its MOVEMENT entry is formed (R94, R108). -/
def State.endMovement (s : State) (a : Nat) (m : Movement) (o : MovementOutcome) (c : Capture)
    (duration : Option Nat := none) (fault : Option ActionKind := none) : State :=
  (s.setMovement a none).note c (.movement (m.entry a o duration fault))

/-- A movement present is abandoned (R107). -/
def State.abandon (s : State) (a : Nat) : State :=
  match (s.element a).bind (·.movement) with
  | some m => s.endMovement a m .abandoned s.capture
  | none => s

/-! ## Deadlines -/

/-- The start deadline, if it is reached while COMMANDED (R99). -/
def State.startDeadline (s : State) (a : Nat) : State :=
  match s.element a with
  | some r =>
    match r.part with
    | .point p =>
      match p.movement with
      | some m =>
        if m.phase = .commanded ∧ m.startDeadline ≤ s.time.elapsed then
          (s.elementFault a s.capture (.failedToStart m.target m.origin p.startLimit m.command.stamp)).setMovement a
            (some { m with phase := .moving })
        else s
      | none => s
    | .signal _ => s
  | none => s

/-- FAILED_TO_DETECT ends the movement (R101, R102). -/
def State.failToDetect (s : State) (r : ElementRecord) (p : PointPart) (m : Movement) (c : Capture) : State :=
  (s.elementFault r.address c
    (.failedToDetect m.target m.origin p.runLimit (fresh r.lastStatus) (m.leave.map (·.stamp)) m.bounces)).endMovement
      r.address m .failed c none (some .failedToDetect)

/-- The run deadline, if it is reached: it ends the movement, or is marked passed in SETTLING (R94, R101). -/
def State.runDeadline (s : State) (a : Nat) : State :=
  match s.element a with
  | some r =>
    match r.part with
    | .point p =>
      match p.movement with
      | some m =>
        if m.runDeadline ≤ s.time.elapsed then
          match m.phase with
          | .settling => s.setMovement a (some { m with runPassed := true })
          | .commanded => s.failToDetect r p m s.capture
          | .moving => s.failToDetect r p m s.capture
        else s
      | none => s
    | .signal _ => s
  | none => s

/-- The duration of a completed movement in ms (R103). -/
def Movement.duration (m : Movement) : Nat :=
  match m.arrival with
  | some d => (d.capture.elapsed - m.command.capture.elapsed) / 1000
  | none => 0

/-- The history with a new newest duration, at most four (R104). -/
def pushDuration (h : List Nat) (d : Nat) : List Nat := (h ++ [d]).drop (h.length + 1 - 4)

/-- The history is judged against the warning duration (R104). -/
def State.judgeHistory (s : State) (a : Nat) (h : List Nat) (d warning : Nat) (c : Capture) : State :=
  if warning < d then
    let s1 := s.elementFault a c (.slowMovement d warning)
    if h.length = 4 ∧ h.all (fun x => decide (warning < x)) = true then s1.elementFault a c (.trend h warning) else s1
  else s

/-- A movement completes (R103, R104). -/
def State.complete (s : State) (a : Nat) (p : PointPart) (m : Movement) : State :=
  let h := pushDuration p.history m.duration
  let c := s.capture
  let s1 := s.endMovement a m .complete c (some m.duration) none
  (s1.modifyPoint a (fun q => { q with history := h })).judgeHistory a h m.duration p.warning c

/-- The settle deadline, if it is reached while SETTLING (R103). -/
def State.settleDeadline (s : State) (a : Nat) : State :=
  match s.element a with
  | some r =>
    match r.part with
    | .point p =>
      match p.movement with
      | some m => if m.phase = .settling ∧ s.reached m.settleDeadline = true then s.complete a p m else s
      | none => s
    | .signal _ => s
  | none => s

/-- The start and the run deadline are both reached while COMMANDED. -/
def State.startAndRunReached (s : State) (a : Nat) : Bool :=
  match (s.element a).bind (·.movement) with
  | some m =>
    decide (m.phase = .commanded) && decide (m.startDeadline ≤ s.time.elapsed) && decide (m.runDeadline ≤ s.time.elapsed)
  | none => false

/-- The start and the run deadline that a command has just set, where they are already reached (R110); their order is free
(R111, log 18). -/
def State.takeReached (s : State) (a : Nat) : State :=
  if s.startAndRunReached a then
    let s1 := { s with choices := s.choices + 1 }
    if Config.startFirst s.choices then (s1.startDeadline a).runDeadline a else s1.runDeadline a
  else (s.startDeadline a).runDeadline a

/-! ## Commands (R95 to R97) -/

/-- The movement that a new command starts (R97). -/
def PointPart.start (p : PointPart) (t : Target) (origin : Option Detected) (d : Dated) : Movement :=
  { phase := .commanded, target := t, origin := origin, command := d, leave := none, arrival := none,
    startDeadline := d.capture.elapsed + p.startLimit * 1000, runDeadline := d.capture.elapsed + p.runLimit * 1000000,
    settleDeadline := none, bounces := 0, runPassed := false }

/-- A movement in progress is ended by a new command (R96). -/
def State.reverse (s : State) (a : Nat) (p : PointPart) (c : Capture) : State :=
  match p.movement with
  | some m => s.endMovement a m .reversed c
  | none => s

/-- A new command for a point in SUPERVISE (R96, R97). -/
def State.pointCommand (s : State) (a : Nat) (t : Target) (c : Capture) : State :=
  match s.element a with
  | some r =>
    match r.part with
    | .point p =>
      let s1 := s.reverse a p c
      let m := p.start t r.detected (s.dated c)
      if r.detected = some t.detected then s1.note c (.movement (m.entry a .noMove (some 0) none))
      else (s1.setMovement a (some m)).takeReached a
    | .signal _ => s
  | none => s

/-! ## Statuses (R98, R100, R102, R105, R106) -/

/-- The point arrives at its target (R98, R100). -/
def Movement.arrive (m : Movement) (d : Dated) (settle : Nat) : Movement :=
  { m with phase := .settling, arrival := some d, settleDeadline := some (d.capture.elapsed + settle * 1000) }

/-- The movement after a status in COMMANDED (R98). -/
def Movement.commandedStatus (m : Movement) (shown : Detected) (d : Dated) (settle : Nat) : Movement :=
  if shown = .none then { m with phase := .moving, leave := some d }
  else if shown = m.target.detected then m.arrive d settle
  else m

/-- The movement after a status in MOVING (R100). -/
def Movement.movingStatus (m : Movement) (shown : Detected) (d : Dated) (settle : Nat) : Movement :=
  if shown = .none then { m with leave := if m.leave.isSome then m.leave else some d }
  else if shown = m.target.detected then m.arrive d settle
  else m

/-- The movement after a bounce (R102). -/
def Movement.bounced (m : Movement) : Movement :=
  { m with phase := .moving, bounces := m.bounces + 1, arrival := none, settleDeadline := none }

/-- A status in SETTLING; a bounce after a passed run deadline ends the movement at once (R101, R102). -/
def State.settlingStatus (s : State) (r : ElementRecord) (p : PointPart) (m : Movement) (shown : Detected) (c : Capture) :
    State :=
  if shown = m.target.detected then s
  else if p.maxBounces < m.bounced.bounces then
    (s.elementFault r.address c (.chatter m.target m.bounced.bounces p.maxBounces)).endMovement r.address m.bounced .failed c
      none (some .chatter)
  else if m.runPassed then s.failToDetect r p m.bounced s.capture
  else s.setMovement r.address (some m.bounced)

/-- The movement that a status in COMMANDED or MOVING leaves; a settle deadline that it has just set is taken where it is
already reached (R98, R100, R110). -/
def State.moveOn (s : State) (a : Nat) (m : Movement) : State := (s.setMovement a (some m)).settleDeadline a

/-- A status during a movement, with the deadlines it sets where they are already reached (R98, R100, R102, R110). -/
def State.movementStatus (s : State) (r : ElementRecord) (p : PointPart) (m : Movement) (shown : Detected) (c : Capture) :
    State :=
  match m.phase with
  | .commanded => s.moveOn r.address (m.commandedStatus shown (s.dated c) p.settleTime)
  | .moving => s.moveOn r.address (m.movingStatus shown (s.dated c) p.settleTime)
  | .settling => s.settlingStatus r p m shown c

/-- A status while IDLE (R105, R106). -/
def State.idleStatus (s : State) (r : ElementRecord) (prev : Option Value) (shown : Detected) (change : Bool) (c : Capture) :
    State :=
  match shown, prev, r.commandedTarget with
  | .none, some (.detected .none), _ => s
  | .none, some v, _ => s.elementFault r.address c (.detectionLost v)
  | .none, none, _ => s
  | _, _, some t =>
    if change = true ∧ shown ≠ t.detected then s.elementFault r.address c (.uncommandedMove t shown prev) else s
  | _, _, none => s

/-- An accepted status of a point in SUPERVISE (R98 to R106, R110). -/
def State.pointStatus (s : State) (a : Nat) (prev : Option Value) (shown : Detected) (change : Bool) (c : Capture) : State :=
  match s.element a with
  | some r =>
    match r.part with
    | .point p =>
      match p.movement with
      | some m =>
        if c.elapsed < m.command.capture.elapsed then s else s.movementStatus r p m shown c
      | none => s.idleStatus r prev shown change c
    | .signal _ => s
  | none => s

end Sys2Proof.Machine
end

