-- ==== Sys2Proof/Machine/Signal.lean ====
section
/-! DEFINITION. Signal supervision: confirmations, cleared-for, train events and their faults (spec/07). -/

namespace Sys2Proof.Machine

open Sys2Proof

/-! ## Contexts -/

/-- Changes the signal fields of the record at an address. -/
def State.modifySignal (s : State) (a : Nat) (f : SignalPart → SignalPart) : State :=
  s.modifyElement a (fun r => r.mapSignal f)

/-- The signal fields of the record at an address, when it holds a signal. -/
def State.signalPart (s : State) (a : Nat) : Option SignalPart :=
  match s.element a with
  | some r =>
    match r.part with
    | .signal g => some g
    | .point _ => none
  | none => none

/-- The contexts after a command that is a change (R115). -/
def SignalPart.commanded (g : SignalPart) (aspect : Nat) (tag : Option TrainTag) (d : Dated) : SignalPart :=
  if aspect = 0 then { g with confirmation := none }
  else
    { g with
      confirmation := some
        { aspect := aspect, tag := tag, command := d, deadline := d.capture.elapsed + g.confirmLimit * 1000, overdue := false }
      clearedFor := if tag.isSome then g.clearedFor else none }

/-- The record's last commanded aspect, absent when stale (R71). -/
def ElementRecord.commandedAspect (r : ElementRecord) : Option Nat :=
  match fresh r.lastCommand with
  | some (.aspect k _) => some k
  | _ => none

/-! ## The confirm deadline (R119) -/

/-- The confirmation pending's deadline, if it is reached and not yet taken (R119). -/
def State.confirmDeadline (s : State) (a : Nat) : State :=
  match s.element a with
  | some r =>
    match r.part with
    | .signal g =>
      match g.confirmation with
      | some k =>
        if k.overdue = false ∧ k.deadline ≤ s.time.elapsed then
          let s1 := s.modifySignal a (fun g => { g with confirmation := some { k with overdue := true } })
          if r.mode = .supervise then
            s1.elementFault a s1.capture
              (.aspectNotShown k.aspect k.tag g.confirmLimit k.command.stamp (fresh r.lastStatus))
          else s1
        else s
      | none => s
    | .point _ => s
  | none => s

/-! ## Commands (R115) -/

/-- An accepted command that is a change, with its deadline when that is already reached (R115, R123). -/
def State.signalCommand (s : State) (a : Nat) (aspect : Nat) (tag : Option TrainTag) (c : Capture) : State :=
  (s.modifySignal a (fun g => g.commanded aspect tag (s.dated c))).confirmDeadline a

/-! ## Statuses (R116 to R122) -/

/-- LAMP_DARK applies (R121). -/
def lampWentDark (prev : Option Value) (lamp : Lamp) : Bool :=
  match lamp, prev with
  | .dark, none => true
  | .dark, some (.shown _ .proven) => true
  | _, _ => false

/-- Raises LAMP_DARK where it applies (R121). -/
def State.judgeLamp (s : State) (r : ElementRecord) (prev : Option Value) (shown : Nat) (lamp : Lamp) (c : Capture) : State :=
  if lampWentDark prev lamp then s.elementFault r.address c (.lampDark shown r.commandedAspect) else s

/-- Raises SIGNAL_DROPPED where it applies (R120). -/
def State.judgeDrop (s : State) (r : ElementRecord) (g : SignalPart) (prev : Option Value) (shown : Nat) (change : Bool)
    (c : Capture) : State :=
  match prev, r.commandedAspect with
  | some (.shown p _), some k =>
    if change = true ∧ shown = 0 ∧ 1 ≤ p ∧ 1 ≤ k then s.elementFault r.address c (.signalDropped p k g.clearedFor) else s
  | _, _ => s

/-- A train event is given when the timetable-point flag is on (R113, R117, R118). -/
def State.giveTrainEvent (s : State) (a : Nat) (g : SignalPart) (train : TrainTag) (k : CheckKind) (c : Capture) : State :=
  if g.timetablePoint then s.trainEvent { train := train, element := a, check := k, stamp := s.stampOf c } else s

/-- A status confirms a confirmation pending (R116). -/
def Confirmation.confirmedBy (k : Confirmation) (shown : Nat) (lamp : Lamp) (c : Capture) : Bool :=
  decide (shown = k.aspect) && decide (lamp = .proven) && decide (k.command.capture.elapsed ≤ c.elapsed)

/-- The confirmation is removed, and acts on the cleared-for (R116, R117). -/
def State.confirm (s : State) (a : Nat) (g : SignalPart) (k : Confirmation) (c : Capture) : State :=
  let s1 := s.modifySignal a (fun g => { g with confirmation := none })
  match k.tag with
  | some t =>
    if g.clearedFor = some t then s1
    else (s1.modifySignal a (fun g => { g with clearedFor := some t })).giveTrainEvent a g t .cleared c
  | none => s1

/-- The cleared train has passed (R118). -/
def State.pass (s : State) (a : Nat) (g : SignalPart) (t : TrainTag) (c : Capture) : State :=
  (s.modifySignal a (fun g => { g with clearedFor := none })).giveTrainEvent a g t .passed c

/-- The confirmation of R116 or the passing of R118. -/
def State.judgeTrain (s : State) (r : ElementRecord) (g : SignalPart) (shown : Nat) (lamp : Lamp) (c : Capture) : State :=
  match g.confirmation, g.clearedFor with
  | some k, cf =>
    if k.confirmedBy shown lamp c then s.confirm r.address g k c
    else
      match cf with
      | some t => if shown = 0 ∧ r.commandedAspect = some 0 then s.pass r.address g t c else s
      | none => s
  | none, some t => if shown = 0 ∧ r.commandedAspect = some 0 then s.pass r.address g t c else s
  | none, none => s

/-- An accepted status of a signal in OBSERVE or SUPERVISE (R116 to R122). -/
def State.signalStatus (s : State) (a : Nat) (prev : Option Value) (shown : Nat) (lamp : Lamp) (change : Bool) (c : Capture) :
    State :=
  match s.element a with
  | some r =>
    match r.part with
    | .signal g =>
      let s1 := if r.mode = .supervise then (s.judgeLamp r prev shown lamp c).judgeDrop r g prev shown change c else s
      s1.judgeTrain r g shown lamp c
    | .point _ => s
  | none => s

end Sys2Proof.Machine
end

