-- ==== Sys2Proof/Machine/Elements.lean ====
section
/-! DEFINITION. The element table: loading, unloading, modes, the operating state seen by it, and the commit of an
element telegram with its coverage (spec/04, spec/05). -/

namespace Sys2Proof.Machine

open Sys2Proof

/-! ## Codes (R189: numbered from 1 in the order of their list) -/

/-- The element kind of a code. -/
def elementKindOf : Nat → Option ElementKind
  | 1 => some .signal
  | 2 => some .point
  | _ => none

/-- The element mode of a code. -/
def elementModeOf : Nat → Option ElementMode
  | 1 => some .ignore
  | 2 => some .observe
  | 3 => some .supervise
  | 4 => some .test
  | _ => none

/-- The lamp of a code (R190). -/
def lampOf : Nat → Option Lamp
  | 1 => some .proven
  | 2 => some .dark
  | _ => none

/-- The commanded position of a code (R190). -/
def targetOf : Nat → Option Target
  | 1 => some .normal
  | 2 => some .reverse
  | _ => none

/-- The detected position of a code (R190). -/
def detectedOf : Nat → Option Detected
  | 0 => some .none
  | 1 => some .normal
  | 2 => some .reverse
  | _ => none

/-- An address is an element address (R45, R61). -/
def isElementAddress (a : Nat) : Bool := decide (1 ≤ a) && decide (a ≤ 0xEFFF)

/-! ## LOAD ELEMENT (R62, R65, R66) -/

/-- A limit: its default when absent, else clamped to its range (R62). -/
def limitOf (v : Option Nat) (dflt lo hi : Nat) : Nat :=
  match v with
  | none => dflt
  | some n => clampNat n lo hi

/-- Some limit of the record's kind was clamped (R62). -/
def loadClamped (k : ElementKind) (p : LoadElementParams) : Bool :=
  givenClamped p.silence 100 10000
    || match k with
      | .signal => givenClamped p.confirm 100 5000
      | .point =>
        givenClamped p.start 100 5000 || givenClamped p.run 1 30 || givenClamped p.settle 20 500
          || givenClamped p.bounces 0 15 || givenClamped p.warning 500 30000

/-- The fields of its kind that a load gives a record, dynamic fields at creation (R62, R63). -/
def loadedPart (k : ElementKind) (p : LoadElementParams) : ElementPart :=
  match k with
  | .signal =>
    .signal
      { timetablePoint := decide (p.timetablePoint = 1), confirmLimit := limitOf p.confirm 1500 100 5000,
        clearedFor := none, confirmation := none }
  | .point =>
    .point
      { startLimit := limitOf p.start 1000 100 5000, runLimit := limitOf p.run 8 1 30,
        settleTime := limitOf p.settle 100 20 500, maxBounces := limitOf p.bounces 3 0 15,
        warning := limitOf p.warning 6000 500 30000, movement := none, history := [] }

/-- The record that a load creates or leaves in place of the held one (R66). -/
def loadedRecord (k : ElementKind) (m : ElementMode) (p : LoadElementParams) (references : Nat) : ElementRecord :=
  { address := p.address, mode := m, silenceLimit := limitOf p.silence 1500 100 10000, lastCommand := none,
    lastStatus := none, commandSequence := none, statusSequence := none, coverage := .never, regained := none,
    silenceDeadline := none, latched := none, references := references, part := loadedPart k p }

/-- A load keeps a referenced record a timetable-point signal (R64, R65). -/
def keepsReferenced (r : ElementRecord) (k : ElementKind) (flag : Bool) : Bool :=
  decide (r.references = 0) || (decide (r.kind = k) && flag)

/-- The fields of a load are each in their set (R65; log 24). The timetable-point flag has no coding for its default
(log 46). -/
def loadArguments (p : LoadElementParams) : Option (ElementKind × ElementMode × Bool) :=
  match elementKindOf p.kind, elementModeOf p.mode, flagOf p.timetablePoint with
  | some k, some m, some f =>
    if isElementAddress p.address = true ∧ ¬(f = true ∧ k = .point) then some (k, m, f) else none
  | _, _, _ => none

/-- LOAD ELEMENT is judged (R65). -/
def State.judgeLoad (s : State) (p : LoadElementParams) : Result :=
  if s.service.state = .run then .refusedState
  else
    match loadArguments p with
    | none => .refusedArgument
    | some (k, _, f) =>
      match s.element p.address with
      | none =>
        if Config.maxElements ≤ s.elements.length then .full
        else if loadClamped k p then .doneClamped else .done
      | some r =>
        if keepsReferenced r k f then (if loadClamped k p then .doneClamped else .done) else .referenced

/-- LOAD ELEMENT takes effect (R66). -/
def State.loadElement (s : State) (p : LoadElementParams) : State :=
  match loadArguments p with
  | none => s
  | some (k, m, _) =>
    let n := ((s.element p.address).map (·.references)).getD 0
    ({ s with elements := insertElement (loadedRecord k m p n) s.elements }).evalAlarm

/-! ## UNLOAD ELEMENT (R67) -/

/-- UNLOAD ELEMENT is judged (R67). -/
def State.judgeUnload (s : State) (a : Nat) : Result :=
  if s.service.state = .run then .refusedState
  else if isElementAddress a = false then .refusedArgument
  else
    match s.element a with
    | none => .notFound
    | some r => if r.references = 0 then .done else .referenced

/-- UNLOAD ELEMENT takes effect (R67). -/
def State.unloadElement (s : State) (a : Nat) : State :=
  ({ s with elements := s.elements.filter (fun r => decide (r.address ≠ a)) }).evalAlarm

/-! ## SET ELEMENT MODE (R69 to R71) -/

/-- SET ELEMENT MODE is judged (R69). -/
def State.judgeMode (s : State) (a mode : Nat) : Result :=
  if isElementAddress a = false ∨ (elementModeOf mode).isNone = true then .refusedArgument
  else if (s.element a).isSome then .done else .notFound

/-- The confirmation pending is kept by a change of mode (R70). -/
def keepsConfirmation : ElementMode → ElementMode → Bool
  | .observe, .supervise => true
  | _, _ => false

/-- The cleared-for is kept by a change of mode (R70). -/
def keepsClearedFor : ElementMode → ElementMode → Bool
  | .observe, .supervise => true
  | .supervise, .observe => true
  | _, _ => false

/-- The signal contexts after a change of mode (R70). -/
def SignalPart.changeMode (g : SignalPart) (old new : ElementMode) : SignalPart :=
  { g with
    confirmation := if keepsConfirmation old new then g.confirmation else none
    clearedFor := if keepsClearedFor old new then g.clearedFor else none }

/-- A held value marked stale (R71). -/
def markStale (h : Option Held) : Option Held := h.map (fun v => { v with stale := true })

/-- The observation fields on going to IGNORE (R71). -/
def ElementRecord.toIgnore (r : ElementRecord) : ElementRecord :=
  { r with
    lastCommand := markStale r.lastCommand
    lastStatus := markStale r.lastStatus
    commandSequence := none
    statusSequence := none
    coverage := .never
    regained := none
    silenceDeadline := none }

/-- The record after a change of mode (R70, R71). -/
def ElementRecord.changeMode (r : ElementRecord) (new : ElementMode) : ElementRecord :=
  let r1 := { r.mapSignal (fun g => g.changeMode r.mode new) with mode := new }
  if new = .ignore then r1.toIgnore else r1

/-- SET ELEMENT MODE takes effect (R69 to R71). -/
def State.setElementMode (s : State) (a mode : Nat) : State :=
  match s.element a, elementModeOf mode with
  | some r, some m => if r.mode = m then s else (s.abandon a).modifyElement a (fun r => r.changeMode m)
  | _, _ => s

/-! ## Entering and leaving RUN (R72) -/

/-- A record on entering RUN (R72). -/
def ElementRecord.enterRun (r : ElementRecord) : ElementRecord :=
  { r with coverage := .never, regained := none, silenceDeadline := none }

/-- Every record on entering RUN (R72). -/
def State.elementsEnterRun (s : State) : State := { s with elements := s.elements.map ElementRecord.enterRun }

/-- A record on leaving RUN, its movement already abandoned (R72). -/
def ElementRecord.leaveRun (r : ElementRecord) : ElementRecord :=
  { r.mapSignal (fun g => { g with confirmation := none, clearedFor := none }) with silenceDeadline := none }

/-- Every movement ends ABANDONED in ascending order of address, and the contexts are dropped (R72, R107, R182). -/
def State.elementsLeaveRun (s : State) : State :=
  let s1 := (s.elements.map (·.address)).foldl State.abandon s
  { s1 with elements := s1.elements.map ElementRecord.leaveRun }

/-! ## Coverage (R86 to R88) -/

/-- Coverage after an accepted status (R87). -/
def ElementRecord.covered (r : ElementRecord) (c : Capture) (t : Stamp) : ElementRecord :=
  let d := c.elapsed + r.silenceLimit * 1000
  match r.coverage with
  | .observed => { r with silenceDeadline := some (max d (r.silenceDeadline.getD d)) }
  | .never => { r with coverage := .observed, regained := some t, silenceDeadline := some d }
  | .lost => { r with coverage := .observed, regained := some t, silenceDeadline := some d }

/-- The element silence deadline, if it is reached while OBSERVED (R88). -/
def State.silenceDeadline (s : State) (a : Nat) : State :=
  match s.element a with
  | some r =>
    if r.coverage = .observed ∧ s.reached r.silenceDeadline = true then
      (s.modifyElement a (fun r => { r with coverage := .lost, silenceDeadline := none })).elementFault a s.capture
        (.coverageLost r.silenceLimit r.regained) (decide (r.mode = .test))
    else s
  | none => s

/-! ## The commit of an element telegram (R79 to R85) -/

/-- Reads a train tag (R189). -/
def tagOf (c0 c1 c2 c3 : Byte) : Option TrainTag :=
  let t : TrainTag := { c0 := c0, c1 := c1, c2 := c2, c3 := c3 }
  if tagValid t then some t else none

/-- The value of a well-formed command body, read against the record's kind (R46, R79, R190). -/
def commandValue (k : ElementKind) (body : List Byte) : Option Value :=
  match k, body with
  | .point, [b] => (targetOf b.toNat).map .target
  | .signal, [b] => if b.toNat ≤ 7 then some (.aspect b.toNat none) else none
  | .signal, [b, c0, c1, c2, c3] =>
    if 1 ≤ b.toNat ∧ b.toNat ≤ 7 then (tagOf c0 c1 c2 c3).map (fun t => .aspect b.toNat (some t)) else none
  | _, _ => none

/-- The value of a well-formed status body, read against the record's kind (R46, R79, R190). -/
def statusValue (k : ElementKind) (body : List Byte) : Option Value :=
  match k, body with
  | .point, [b] => (detectedOf b.toNat).map .detected
  | .signal, [b, l] => if b.toNat ≤ 7 then (lampOf l.toNat).map (fun x => .shown b.toNat x) else none
  | _, _ => none

/-- The value of a telegram's body. -/
def bodyValue (t : TelegramKind) (k : ElementKind) (body : List Byte) : Option Value :=
  match t with
  | .command => commandValue k body
  | .status => statusValue k body

/-- A sequence number is new in its window (R80). -/
def isNew (held : Option Nat) (s : Nat) : Bool :=
  match held with
  | none => true
  | some h => decide (1 ≤ (s + 256 - h) % 256) && decide ((s + 256 - h) % 256 ≤ 127)

/-- The held value of a telegram's kind. -/
def ElementRecord.last (r : ElementRecord) : TelegramKind → Option Held
  | .command => r.lastCommand
  | .status => r.lastStatus

/-- The held sequence of a telegram's kind (R80). -/
def ElementRecord.sequence (r : ElementRecord) : TelegramKind → Option Nat
  | .command => r.commandSequence
  | .status => r.statusSequence

/-- The record after a telegram is accepted (R80, R81). -/
def ElementRecord.accept (r : ElementRecord) (t : TelegramKind) (n : Nat) (v : Value) : ElementRecord :=
  match t with
  | .command => { r with lastCommand := some { value := v, stale := false }, commandSequence := some n }
  | .status => { r with lastStatus := some { value := v, stale := false }, statusSequence := some n }

/-- An element telegram as its pending item hands it over (R76). -/
structure ElementTelegram where
  kind : TelegramKind
  address : Nat
  sequence : Nat
  capture : Capture
  port : PortId
  deriving DecidableEq, Repr

/-- The ELEMENT entry of a change (R83, R84). -/
def State.elementEntry (s : State) (r : ElementRecord) (t : ElementTelegram) (old : Option Value) (new : Value) : State :=
  s.attempt
    { Draft.plain t.capture
        (.element t.address r.kind t.kind t.sequence old new t.port old.isNone) false with test := decide (r.mode = .test) }

/-- The coverage step of an accepted telegram (R86, R87). -/
def State.coverageStep (s : State) (t : ElementTelegram) : State :=
  match t.kind with
  | .command => s
  | .status =>
    if s.service.state = .run then s.modifyElement t.address (fun r => r.covered t.capture (s.stampOf t.capture)) else s

/-- The hand-off to supervision (R85, R93, R113). -/
def State.handOff (s : State) (m : ElementMode) (t : ElementTelegram) (old : Option Value) (new : Value) (change : Bool) :
    State :=
  match m, new with
  | .supervise, .target x => if change then s.pointCommand t.address x t.capture else s
  | .supervise, .detected d => s.pointStatus t.address old d change t.capture
  | .supervise, .aspect k g => if change then s.signalCommand t.address k g t.capture else s
  | .supervise, .shown k l => s.signalStatus t.address old k l change t.capture
  | .observe, .aspect k g => if change then s.signalCommand t.address k g t.capture else s
  | .observe, .shown k l => s.signalStatus t.address old k l change t.capture
  | _, _ => s

/-- A telegram is accepted (R81 to R87). -/
def State.acceptTelegram (s : State) (r : ElementRecord) (t : ElementTelegram) (v : Value) : State :=
  let old := fresh (r.last t.kind)
  let change := decide (old ≠ some v)
  let s1 := s.modifyElement t.address (fun r => r.accept t.kind t.sequence v)
  let s2 := if change then s1.elementEntry r t old v else s1
  let s3 := s2.coverageStep t
  if s.service.state = .run then s3.handOff r.mode t old v change else s3

/-- An element telegram is applied at its frame's commit: screened, judged by its window, accepted (R79 to R81). -/
def State.applyElement (s : State) (t : ElementTelegram) (body : List Byte) : State :=
  match s.element t.address with
  | none => s
  | some r =>
    match bodyValue t.kind r.kind body with
    | none => s
    | some v =>
      if r.mode = .ignore ∨ isNew (r.sequence t.kind) t.sequence = false then s else s.acceptTelegram r t v

end Sys2Proof.Machine
end

