-- ==== Sys2Proof/Machine/ElementCommands.lean ====
section
/-! DEFINITION. The meanings of the deadlines of the element table and the supervisors (spec/05 to spec/07). -/

namespace Sys2Proof.Machine

open Sys2Proof

/-- ELEMENT_SILENCE_DEADLINE (R88). -/
def execElementSilenceDeadline (dt : Nat) (address : Nat) (s : State) : Host.Outcome State Fault Refusal :=
  s.timed dt (fun s => s.silenceDeadline address)

/-- START_DEADLINE (R99). -/
def execStartDeadline (dt : Nat) (address : Nat) (s : State) : Host.Outcome State Fault Refusal :=
  s.timed dt (fun s => s.startDeadline address)

/-- RUN_DEADLINE (R101). -/
def execRunDeadline (dt : Nat) (address : Nat) (s : State) : Host.Outcome State Fault Refusal :=
  s.timed dt (fun s => s.runDeadline address)

/-- SETTLE_DEADLINE (R103, R104). -/
def execSettleDeadline (dt : Nat) (address : Nat) (s : State) : Host.Outcome State Fault Refusal :=
  s.timed dt (fun s => s.settleDeadline address)

/-- CONFIRM_DEADLINE (R119). -/
def execConfirmDeadline (dt : Nat) (address : Nat) (s : State) : Host.Outcome State Fault Refusal :=
  s.timed dt (fun s => s.confirmDeadline address)

end Sys2Proof.Machine
end

