-- ==== Sys2Proof/Machine/LineCommands.lean ====
section
/-! DEFINITION. The meanings of the rows of the clock lines (spec/10). -/

namespace Sys2Proof.Machine

open Sys2Proof

/-- PULSE_START (R168). -/
def execPulseStart (dt : Nat) (l : LineId) (s : State) : Host.Outcome State Fault Refusal :=
  s.timed dt (fun s => s.startPulse l)

/-- CURRENT_PRESENT (R168). -/
def execCurrentPresent (dt : Nat) (l : LineId) (active : Bool) (s : State) : Host.Outcome State Fault Refusal :=
  s.timed dt (fun s => s.senseCurrent l active)

/-- PULSE_END (R169, R170). -/
def execPulseEnd (dt : Nat) (l : LineId) (s : State) : Host.Outcome State Fault Refusal :=
  s.timed dt (fun s => s.endPulse l)

/-- OVERCURRENT (R171, R172). -/
def execOvercurrent (dt : Nat) (l : LineId) (active : Bool) (s : State) : Host.Outcome State Fault Refusal :=
  s.timed dt (fun s => s.senseOvercurrent l active)

/-- RETRY_DEADLINE (R171). -/
def execRetryDeadline (dt : Nat) (l : LineId) (s : State) : Host.Outcome State Fault Refusal :=
  s.timed dt (fun s => s.endRetry l)

end Sys2Proof.Machine
end

