-- ==== Sys2Proof/Machine/Operands.lean ====
section
/-! DEFINITION. The octets of service requests: codes, lengths, and the parameters read and written by R189 and R191. -/

namespace Sys2Proof.Machine

open Sys2Proof

/-! ## Fields -/

/-- The number in `n` octets from place `i`. -/
def field (l : List Byte) (i n : Nat) : Nat := number ((l.drop i).take n)

/-- The value of a field that may be absent: absent when every octet is 0xFF (R189). -/
def optionField (l : List Byte) (i n : Nat) : Option Nat :=
  if field l i n = 256 ^ n - 1 then none else some (field l i n)

/-- An instant of five octets (R189). -/
def instantField (l : List Byte) (i : Nat) : Instant := { day := field l i 2, second := field l (i + 2) 3 }

/-- An instant that may be absent (R189). -/
def optionInstant (l : List Byte) (i : Nat) : Option Instant :=
  if field l i 5 = 256 ^ 5 - 1 then none else some (instantField l i)

/-- A signed field of two octets that may be absent (R189). -/
def optionSigned (l : List Byte) (i : Nat) : Option Int :=
  if field l i 2 = 0x8000 then none else some (BitVec.ofNat 16 (field l i 2)).toInt

/-- A train tag (R189). -/
def tagField (l : List Byte) (i : Nat) : TrainTag :=
  { c0 := l.getD i 0, c1 := l.getD (i + 1) 0, c2 := l.getD (i + 2) 0, c3 := l.getD (i + 3) 0 }

/-- `n` octets of an absent field (R189). -/
def absent (n : Nat) : List Byte := List.replicate n 0xFF

/-- A field that may be absent, in `n` octets (R189). -/
def optionOctets (n : Nat) (v : Option Nat) : List Byte :=
  match v with
  | none => absent n
  | some x => octets n x

/-- A signed number in `n` octets, two's complement (R189). -/
def signedOctets (n : Nat) (v : Int) : List Byte := octets n (v % (256 ^ n : Nat)).toNat

/-- An instant in five octets (R189). -/
def instantOctets (i : Instant) : List Byte := octets 2 i.day ++ octets 3 i.second

/-- An instant that may be absent (R189). -/
def optionInstantOctets (i : Option Instant) : List Byte :=
  match i with
  | none => absent 5
  | some x => instantOctets x

/-- A train tag's octets (R189). -/
def tagOctets (t : TrainTag) : List Byte := [t.c0, t.c1, t.c2, t.c3]

/-! ## Codes and lengths (R191) -/

/-- The request code of a request (R191). -/
def codeOf : Request → Byte
  | .readStatus => 0x01
  | .setTimeConfiguration _ => 0x02
  | .setLocalOffset _ _ => 0x03
  | .setRingPort _ _ _ => 0x04
  | .loadElement _ => 0x10
  | .unloadElement _ => 0x11
  | .setElementMode _ _ => 0x12
  | .readElement _ _ => 0x13
  | .setTimetableSettings _ _ => 0x20
  | .setChangeover _ _ => 0x21
  | .loadEntry _ => 0x22
  | .withdrawEntry _ => 0x23
  | .erasePeriod _ => 0x24
  | .readEntry _ _ => 0x25
  | .readRecord _ => 0x30
  | .acknowledgeRecord _ => 0x31
  | .setActions _ _ => 0x32
  | .acknowledgeAlarm _ _ => 0x33
  | .setClockLine _ => 0x40
  | .requestState _ => 0x50
  | .setRunCondition _ => 0x51
  | .acknowledgeErrorIndication => 0x52
  | .restart => 0x53

/-- The parameter octets and reply octets of a request code (R191). -/
def lengthsOf (code : Nat) : Option (Nat × Nat) :=
  match code with
  | 0x01 => some (0, 224)
  | 0x02 => some (44, 0)
  | 0x03 => some (7, 0)
  | 0x04 => some (4, 0)
  | 0x10 => some (17, 0)
  | 0x11 => some (2, 0)
  | 0x12 => some (3, 0)
  | 0x13 => some (3, 96)
  | 0x20 => some (4, 0)
  | 0x21 => some (7, 0)
  | 0x22 => some (21, 0)
  | 0x23 => some (2, 0)
  | 0x24 => some (1, 0)
  | 0x25 => some (3, 48)
  | 0x30 => some (4, 268)
  | 0x31 => some (4, 0)
  | 0x32 => some (17, 0)
  | 0x33 => some (3, 0)
  | 0x40 => some (13, 0)
  | 0x50 => some (1, 0)
  | 0x51 => some (1, 0)
  | 0x52 => some (0, 0)
  | 0x53 => some (0, 0)
  | _ => none

/-! ## Reading parameters (R191) -/

/-- SET TIME CONFIGURATION's settings of R24 and then of R39, in table order. -/
def readTimeConfig (l : List Byte) : TimeConfigParams :=
  { stepThreshold := field l 0 2, stepPermit := field l 2 1, stepInRun := field l 3 1, fineEntry := field l 4 2,
    fineExit := field l 6 3, kp := field l 9 1, ki := field l 10 1, slewRate := field l 11 3, holdDrift := field l 14 3,
    l1 := field l 17 2, l2 := field l 19 1, l3 := field l 20 2,
    ref1 := { enable := field l 22 1, priority := field l 25 1, delay := field l 28 3 },
    ref2 := { enable := field l 23 1, priority := field l 26 1, delay := field l 31 3 },
    ring := { enable := field l 24 1, priority := field l 27 1, delay := field l 34 3 },
    nQual := field l 37 1, nDisq := field l 38 1, revertHold := field l 39 2, masterEnable := field l 41 1,
    masterAddress := field l 42 2 }

/-- LOAD ELEMENT's fields (R65). -/
def readLoadElement (l : List Byte) : LoadElementParams :=
  { address := field l 0 2, kind := field l 2 1, mode := field l 3 1, timetablePoint := field l 4 1,
    silence := optionField l 5 2, start := optionField l 7 2, run := optionField l 9 1, settle := optionField l 10 2,
    bounces := optionField l 12 1, warning := optionField l 13 2, confirm := optionField l 15 2 }

/-- LOAD ENTRY's fields (R132). -/
def readLoadEntry (l : List Byte) : LoadEntryParams :=
  { id := field l 0 2, period := field l 2 1, train := tagField l 3, element := field l 7 2, check := field l 9 1,
    scheduled := instantField l 10, early := field l 15 2, late := field l 17 2, severe := field l 19 2 }

/-- SET CLOCK LINE's fields (R165). -/
def readClockLine (l : List Byte) : ClockLineParams :=
  { line := field l 0 1, enable := optionField l 1 1, step := optionField l 2 1, shown := optionField l 3 2,
    polarity := optionField l 5 1, width := optionField l 6 2, fast := optionField l 8 2, wait := optionField l 10 1,
    retry := optionField l 11 2 }

/-- One pair of SET ACTIONS. -/
def readPair (l : List Byte) (k : Nat) : Nat × Nat := (field l (1 + 2 * k) 1, field l (2 + 2 * k) 1)

/-- The request that a code and its parameters spell (R191). -/
def readRequest (code : Nat) (l : List Byte) : Option Request :=
  match code with
  | 0x01 => some .readStatus
  | 0x02 => some (.setTimeConfiguration (readTimeConfig l))
  | 0x03 => some (.setLocalOffset (optionSigned l 0) (optionInstant l 2))
  | 0x04 => some (.setRingPort (field l 0 1) (field l 1 1) (field l 2 2))
  | 0x10 => some (.loadElement (readLoadElement l))
  | 0x11 => some (.unloadElement (field l 0 2))
  | 0x12 => some (.setElementMode (field l 0 2) (field l 2 1))
  | 0x13 => some (.readElement (field l 0 2) (field l 2 1))
  | 0x20 => some (.setTimetableSettings (field l 0 2) (field l 2 2))
  | 0x21 => some (.setChangeover (optionInstant l 0) (optionField l 5 2))
  | 0x22 => some (.loadEntry (readLoadEntry l))
  | 0x23 => some (.withdrawEntry (field l 0 2))
  | 0x24 => some (.erasePeriod (field l 0 1))
  | 0x25 => some (.readEntry (field l 0 2) (field l 2 1))
  | 0x30 => some (.readRecord (BitVec.ofNat 32 (field l 0 4)))
  | 0x31 => some (.acknowledgeRecord (BitVec.ofNat 32 (field l 0 4)))
  | 0x32 => some (.setActions (field l 0 1) ((List.range 8).map (readPair l)))
  | 0x33 => some (.acknowledgeAlarm (field l 0 1) (field l 1 2))
  | 0x40 => some (.setClockLine (readClockLine l))
  | 0x50 => some (.requestState (field l 0 1))
  | 0x51 => some (.setRunCondition (field l 0 1))
  | 0x52 => some .acknowledgeErrorIndication
  | 0x53 => some .restart
  | _ => none

/-! ## Writing parameters (R191) -/

/-- SET TIME CONFIGURATION's parameter octets. -/
def timeConfigOctets (p : TimeConfigParams) : List Byte :=
  octets 2 p.stepThreshold ++ octets 1 p.stepPermit ++ octets 1 p.stepInRun ++ octets 2 p.fineEntry
    ++ octets 3 p.fineExit ++ octets 1 p.kp ++ octets 1 p.ki ++ octets 3 p.slewRate ++ octets 3 p.holdDrift
    ++ octets 2 p.l1 ++ octets 1 p.l2 ++ octets 2 p.l3
    ++ octets 1 p.ref1.enable ++ octets 1 p.ref2.enable ++ octets 1 p.ring.enable
    ++ octets 1 p.ref1.priority ++ octets 1 p.ref2.priority ++ octets 1 p.ring.priority
    ++ octets 3 p.ref1.delay ++ octets 3 p.ref2.delay ++ octets 3 p.ring.delay
    ++ octets 1 p.nQual ++ octets 1 p.nDisq ++ octets 2 p.revertHold ++ octets 1 p.masterEnable
    ++ octets 2 p.masterAddress

/-- LOAD ELEMENT's parameter octets. -/
def loadElementOctets (p : LoadElementParams) : List Byte :=
  octets 2 p.address ++ octets 1 p.kind ++ octets 1 p.mode ++ octets 1 p.timetablePoint ++ optionOctets 2 p.silence
    ++ optionOctets 2 p.start ++ optionOctets 1 p.run ++ optionOctets 2 p.settle ++ optionOctets 1 p.bounces
    ++ optionOctets 2 p.warning ++ optionOctets 2 p.confirm

/-- LOAD ENTRY's parameter octets. -/
def loadEntryOctets (p : LoadEntryParams) : List Byte :=
  octets 2 p.id ++ octets 1 p.period ++ tagOctets p.train ++ octets 2 p.element ++ octets 1 p.check
    ++ instantOctets p.scheduled ++ octets 2 p.early ++ octets 2 p.late ++ octets 2 p.severe

/-- SET CLOCK LINE's parameter octets. -/
def clockLineOctets (p : ClockLineParams) : List Byte :=
  octets 1 p.line ++ optionOctets 1 p.enable ++ optionOctets 1 p.step ++ optionOctets 2 p.shown
    ++ optionOctets 1 p.polarity ++ optionOctets 2 p.width ++ optionOctets 2 p.fast ++ optionOctets 1 p.wait
    ++ optionOctets 2 p.retry

/-- One pair of SET ACTIONS. -/
def pairOctets (p : Nat × Nat) : List Byte := octets 1 p.1 ++ octets 1 p.2

/-- A signed field of two octets that may be absent (R189). -/
def optionSignedOctets (v : Option Int) : List Byte :=
  match v with
  | none => octets 2 0x8000
  | some x => signedOctets 2 x

/-- The parameter octets of a request (R191). -/
def parameterOctets : Request → List Byte
  | .readStatus => []
  | .setTimeConfiguration p => timeConfigOctets p
  | .setLocalOffset o i => optionSignedOctets o ++ optionInstantOctets i
  | .setRingPort p m l => octets 1 p ++ octets 1 m ++ octets 2 l
  | .loadElement p => loadElementOctets p
  | .unloadElement a => octets 2 a
  | .setElementMode a m => octets 2 a ++ octets 1 m
  | .readElement a k => octets 2 a ++ octets 1 k
  | .setTimetableSettings l g => octets 2 l ++ octets 2 g
  | .setChangeover i d => optionInstantOctets i ++ optionOctets 2 d
  | .loadEntry p => loadEntryOctets p
  | .withdrawEntry i => octets 2 i
  | .erasePeriod p => octets 1 p
  | .readEntry i k => octets 2 i ++ octets 1 k
  | .readRecord f => octets 4 f.toNat
  | .acknowledgeRecord n => octets 4 n.toNat
  | .setActions n l => octets 1 n ++ l.flatMap pairOctets
  | .acknowledgeAlarm t a => octets 1 t ++ octets 2 a
  | .setClockLine p => clockLineOctets p
  | .requestState v => octets 1 v
  | .setRunCondition v => octets 1 v
  | .acknowledgeErrorIndication => []
  | .restart => []

/-- The octets of the SERVICE telegram that carries a request, its reply area filler of zeros (R190, R191; log 9). -/
def serviceOctets (t : Telegram) (r : Request) : List Byte :=
  let reply := ((lengthsOf (codeOf r).toNat).map Prod.snd).getD 0
  let body := codeOf r :: (parameterOctets r ++ t.result :: List.replicate reply 0)
  octets 2 t.address.toNat ++ [0x20, t.sequence] ++ octets 2 body.length ++ body

end Sys2Proof.Machine
end

