-- ==== Sys2Proof/Machine/Entries.lean ====
section
/-! DEFINITION. The requests on the timetable store and its tags (R127, R129, R132 to R136), with the reference counts
they keep (R64). -/

namespace Sys2Proof.Machine

open Sys2Proof

/-! ## SET TIMETABLE SETTINGS (R127) -/

/-- SET TIMETABLE SETTINGS is judged (R127). -/
def State.judgeTimetableSettings (s : State) (lead grace : Nat) : Result :=
  if s.service.state = .run then .refusedState
  else if 7200 < lead ∨ 600 < grace then .doneClamped
  else .done

/-- SET TIMETABLE SETTINGS takes effect (R127). -/
def State.setTimetableSettings (s : State) (lead grace : Nat) : State :=
  { s with checker := { s.checker with lead := min lead 7200, grace := min grace 600 } }

/-! ## SET CHANGEOVER (R129) -/

/-- The drain interval that a request gives: its default when absent, else clamped (R129). -/
def drainOf (d : Option Nat) : Nat := min (d.getD 14400) 21600

/-- SET CHANGEOVER is judged (R129). -/
def State.judgeChangeover (s : State) (at_ : Option Instant) (drain : Option Nat) : Result :=
  match at_ with
  | none => .done
  | some i =>
    if 86400 ≤ i.second then .refusedArgument
    else if (s.tagIn .draining).isSome then .refusedState
    else if i.nanos ≤ s.time.centre then .tooLate
    else if drain.getD 0 ≤ 21600 then .done
    else .doneClamped

/-- SET CHANGEOVER takes effect (R129). -/
def State.setChangeover (s : State) (at_ : Option Instant) (drain : Option Nat) : State :=
  { s with checker :=
    { s.checker with schedule := at_.map (fun i => { instant := i, drain := drainOf drain }) } }

/-! ## LOAD ENTRY (R126, R132, R133) -/

/-- The entry that a load makes, its tolerances clamped and its instants computed (R126, R132). -/
def Checker.entryOf (k : Checker) (p : LoadEntryParams) (t : Period) (c : CheckKind) : TimetableEntry :=
  let severe := min p.severe 7200
  { id := p.id, period := t, train := p.train, element := p.element, check := c, scheduled := p.scheduled,
    early := min p.early 3600, late := min p.late 3600, severe := severe,
    windowStart := (p.scheduled.seconds : Int) - k.lead, expiry := p.scheduled.seconds + severe + k.grace,
    state := .pending, matched := none, serial := k.loads }

/-- The fields of a load are each in their set (R132, case 1). -/
def entryArguments (p : LoadEntryParams) : Option (Period × CheckKind) :=
  match periodOf p.period, checkOf p.check with
  | some t, some c =>
    if tagValid p.train = true ∧ isElementAddress p.element = true ∧ p.scheduled.second < 86400 then some (t, c) else none
  | _, _ => none

/-- The element is held as a timetable-point signal (R132, case 4). -/
def State.isTimetablePoint (s : State) (a : Nat) : Bool :=
  match s.signalPart a with
  | some g => g.timetablePoint
  | none => false

/-- The load replaces an entry held in STANDBY (R132, case 6). -/
def State.replaces (s : State) (e : TimetableEntry) : Bool :=
  match s.entry e.id with
  | some h => decide (s.tag h.period = .standby) && decide (s.tag e.period = .standby)
  | none => false

/-- A tolerance was clamped (R132, case 2). -/
def entryClamped (p : LoadEntryParams) : Bool :=
  decide (3600 < p.early) || decide (3600 < p.late) || decide (7200 < p.severe)

/-- LOAD ENTRY is judged, from case 3 on (R132). -/
def State.judgeEntry (s : State) (p : LoadEntryParams) (e : TimetableEntry) : Result :=
  if e.severe < e.late then .badTolerance
  else if s.isTimetablePoint e.element = false then .notATimetablePoint
  else if s.tag e.period = .draining then .periodNotLoadable
  else if (s.entry e.id).isSome = true ∧ s.replaces e = false then .idInUse
  else if s.tag e.period = .live ∧ e.expiry * 1000000000 ≤ s.time.centre then .tooLate
  else if (s.entry e.id).isNone = true ∧ Config.maxEntries ≤ s.checker.store.length then .full
  else if entryClamped p then .doneClamped
  else .done

/-- LOAD ENTRY is judged (R132). -/
def State.judgeLoadEntry (s : State) (p : LoadEntryParams) : Result :=
  match entryArguments p with
  | none => .refusedArgument
  | some (t, c) => s.judgeEntry p (s.checker.entryOf p t c)

/-- One reference fewer at an element (R64). -/
def State.dropReference (s : State) (a : Nat) : State :=
  s.modifyElement a (fun r => { r with references := r.references - 1 })

/-- One reference more at an element (R64). -/
def State.addReference (s : State) (a : Nat) : State :=
  s.modifyElement a (fun r => { r with references := r.references + 1 })

/-- LOAD ENTRY takes effect (R64, R133). -/
def State.loadEntry (s : State) (p : LoadEntryParams) : State :=
  match entryArguments p with
  | none => s
  | some (t, c) =>
    let e := s.checker.entryOf p t c
    let s1 :=
      match s.entry e.id with
      | some h => s.dropReference h.element
      | none => s
    ({ s1 with checker :=
      { s1.checker with store := insertEntry e s1.checker.store, loads := s1.checker.loads + 1 } }).addReference e.element

/-! ## WITHDRAW ENTRY and ERASE PERIOD (R134, R135) -/

/-- WITHDRAW ENTRY is judged (R134). -/
def State.judgeWithdraw (s : State) (id : Nat) : Result := if (s.entry id).isSome then .done else .notFound

/-- WITHDRAW ENTRY takes effect (R134). -/
def State.withdrawEntry (s : State) (id : Nat) : State :=
  match s.entry id with
  | some e => if e.state = .pending then s.withdraw e .requested else s
  | none => s

/-- ERASE PERIOD is judged (R135). -/
def State.judgeErase (s : State) (period : Nat) : Result :=
  match periodOf period with
  | none => .refusedArgument
  | some t => if s.tag t = .standby then .done else .refusedState

/-- ERASE PERIOD takes effect (R64, R135). -/
def State.erasePeriod (s : State) (period : Nat) : State :=
  match periodOf period with
  | none => s
  | some t =>
    let gone := s.checker.store.filter (fun e => decide (e.period = t))
    let s1 := { s with checker := { s.checker with store := s.checker.store.filter (fun e => decide (e.period ≠ t)) } }
    gone.foldl (fun x e => x.dropReference e.element) s1

/-! ## Searches (R73, R136) -/

/-- How a read searches (R73, R136). -/
inductive Search where
  | exact
  | following
  deriving DecidableEq, Repr

/-- The search of a code: EXACT, then NEXT (R189). -/
def searchOf : Nat → Option Search
  | 1 => some .exact
  | 2 => some .following
  | _ => none

/-- The entry that a read finds (R136). -/
def State.findEntry (s : State) (id : Nat) : Search → Option TimetableEntry
  | .exact => s.entry id
  | .following => s.checker.store.find? (fun e => decide (id ≤ e.id))

/-- The record that a read finds (R73). -/
def State.findElement (s : State) (a : Nat) : Search → Option ElementRecord
  | .exact => s.element a
  | .following => s.elements.find? (fun r => decide (a ≤ r.address))

/-- READ ENTRY is judged (R136). -/
def State.judgeReadEntry (s : State) (id search : Nat) : Result :=
  match searchOf search with
  | none => .refusedArgument
  | some k => if (s.findEntry id k).isSome then .done else .notFound

/-- READ ELEMENT is judged (R73). -/
def State.judgeReadElement (s : State) (a search : Nat) : Result :=
  match searchOf search with
  | none => .refusedArgument
  | some k =>
    if 0xEFFF < a then .refusedArgument
    else if (s.findElement a k).isSome then .done
    else .notFound

end Sys2Proof.Machine
end

