-- ==== Sys2Proof/Machine/Alarms.lean ====
section
/-! DEFINITION. The requests on the event record and the alarm unit (R155, R156, R158, R160). -/

namespace Sys2Proof.Machine

open Sys2Proof

/-! ## ACKNOWLEDGE RECORD (R156) and READ RECORD (R155) -/

/-- A sequence number lies behind another, modulo 2³² (R152). -/
def isBehind (x y : Word32) : Bool := decide (1 ≤ (y - x).toNat) && decide ((y - x).toNat ≤ 2147483648)

/-- An entry with this sequence number is held. -/
def EventRecord.holds (r : EventRecord) (n : Word32) : Bool := r.entries.any (fun e => decide (e.sequence = n))

/-- The oldest held sequence number, or the next sequence while the record is empty (R156). -/
def EventRecord.reference (r : EventRecord) : Word32 :=
  match r.entries with
  | e :: _ => e.sequence
  | [] => r.next

/-- ACKNOWLEDGE RECORD is judged (R156). -/
def State.judgeAcknowledge (s : State) (n : Word32) : Result :=
  if s.record.holds n = true ∨ isBehind n s.record.reference = true then .done else .refusedArgument

/-- What is left of a list of entries once those through `n` are removed. -/
def entriesAfter (n : Word32) : List Entry → List Entry
  | [] => []
  | e :: es => if e.sequence = n then es else entriesAfter n es

/-- The entries from the oldest through `n` are removed, if `n` is held (R156). -/
def State.removeThrough (s : State) (n : Word32) : State :=
  if s.record.holds n then { s with record := { s.record with entries := entriesAfter n s.record.entries } } else s

/-- ACKNOWLEDGE RECORD takes effect, with the GAP rule after whatever it removes (R151, R156). -/
def State.acknowledgeRecord (s : State) (n : Word32) : State := (s.removeThrough n).gapRule

/-- A list of entries from sequence number `n` on. -/
def entriesFrom (n : Word32) : List Entry → List Entry
  | [] => []
  | e :: es => if e.sequence = n then e :: es else entriesFrom n es

/-- The entries that READ RECORD returns (R155). -/
def EventRecord.returned (r : EventRecord) (f : Word32) : List Entry :=
  if r.holds f then (entriesFrom f r.entries).take 4
  else if isBehind f r.reference = true ∧ r.entries ≠ [] then r.entries.take 4
  else []

/-! ## SET ACTIONS (R158) -/

/-- The kinds in the order of the default table of R157, numbered from 1. -/
def kindOf (n : Nat) : Option ActionKind :=
  ([ActionKind.failedToStart, .failedToDetect, .detectionLost, .uncommandedMove, .aspectNotShown, .qualityQ4, .chatter,
    .trend, .signalDropped, .lampDark, .coverageLost, .severe, .missed, .qualityQ3, .holdover, .lineOpen, .lineShort,
    .portLinkDown, .portSilent, .slowMovement, .early, .onTime, .late, .unobserved, .unplanned, .sourceChange,
    .jabber])[n - 1]?.bind (fun k => if n = 0 then none else some k)

/-- The action of a code (R191). -/
def actionCode : Nat → Option Action
  | 0 => some .off
  | 1 => some .record
  | 2 => some .alert
  | 3 => some .latch
  | _ => none

/-- No member of a list stands in it twice. -/
def distinct : List Nat → Bool
  | [] => true
  | x :: xs => !(xs.contains x) && distinct xs

/-- The pairs within the count are acceptable (R158). -/
def pairsAccepted (pairs : List (Nat × Nat)) : Bool :=
  pairs.all (fun p => (kindOf p.1).isSome && (actionCode p.2).isSome) && distinct (pairs.map Prod.fst)

/-- SET ACTIONS is judged (R158, R191). -/
def State.judgeActions (s : State) (count : Nat) (pairs : List (Nat × Nat)) : Result :=
  if s.service.state = .run then .refusedState
  else if 1 ≤ count ∧ count ≤ 8 ∧ pairsAccepted (pairs.take count) = true then .done
  else .refusedArgument

/-- Writes the action of one pair. -/
def writeAction (l : List Action) (p : Nat × Nat) : List Action :=
  match kindOf p.1, actionCode p.2 with
  | some k, some a => l.set k.index a
  | _, _ => l

/-- SET ACTIONS takes effect (R158). -/
def State.setActions (s : State) (count : Nat) (pairs : List (Nat × Nat)) : State :=
  { s with alarms := { s.alarms with actions := (pairs.take count).foldl writeAction s.alarms.actions } }

/-! ## ACKNOWLEDGE ALARM (R160, R173) -/

/-- The target of an acknowledge; none for a code or an element address outside its set (R160, R191). -/
def latchTargetOf (target address : Nat) : Option LatchTarget :=
  match target with
  | 1 => if isElementAddress address then some (.element address) else none
  | 2 => some .time
  | 3 => some (.line .one)
  | 4 => some (.line .two)
  | 5 => some (.port .a)
  | 6 => some (.port .b)
  | _ => none

/-- The target exists: an element target names a held record (R160). -/
def State.targetHeld (s : State) : LatchTarget → Bool
  | .element a => (s.element a).isSome
  | _ => true

/-- ACKNOWLEDGE ALARM is judged (R160). -/
def State.judgeAcknowledgeAlarm (s : State) (target address : Nat) : Result :=
  match latchTargetOf target address with
  | none => .refusedArgument
  | some t => if s.targetHeld t then .done else .notFound

/-- A held latched fault is cleared with its ALARM_ACK entry (R160, R161). -/
def State.clearLatch (s : State) (t : LatchTarget) : State :=
  match s.latchOf t with
  | some f => ((s.setLatch t none).evalAlarm).note s.capture (.stateAlarmAck t f)
  | none => s

/-- A LATCHED_OFF line is released (R173). -/
def State.releaseTarget (s : State) : LatchTarget → State
  | .line l => s.modifyLine l Line.release
  | _ => s

/-- ACKNOWLEDGE ALARM takes effect (R160, R173). -/
def State.acknowledgeAlarm (s : State) (target address : Nat) : State :=
  match latchTargetOf target address with
  | some t => (s.clearLatch t).releaseTarget t
  | none => s

end Sys2Proof.Machine
end

