-- ==== Sys2Proof/Machine/Ports.lean ====
section
/-! DEFINITION. The ring ports' own state: loop demand and loop state, reopening, silence, bad frames, and
SET RING PORT (R49 to R53, R56, R58 to R60). -/

namespace Sys2Proof.Machine

open Sys2Proof

/-- Changes a ring port. -/
def State.modifyPort (s : State) (p : PortId) (f : Port → Port) : State := s.setPort p (f (s.port p))

/-! ## Loops (R51 to R53) -/

/-- The loop demand that a port's mode, link and reopen pending call for (R51). -/
def Port.demandNow (x : Port) : Loop :=
  match x.mode, x.up with
  | .auto, true => .isOpen
  | .auto, false => .isClosed
  | .autoClose, true => if x.reopenPending then .isClosed else .isOpen
  | .autoClose, false => .isClosed
  | .alwaysOpen, _ => .isOpen
  | .alwaysClosed, _ => .isClosed

/-- The loop demand evaluated again (R51). -/
def Port.evalDemand (x : Port) : Port := { x with demand := x.demandNow }

/-- The loop state takes the demand, if they differ and the port's transmitter is idle, with its LOOP entry (R53). -/
def State.applyLoop (s : State) (p : PortId) : State :=
  let x := s.port p
  if x.demand ≠ x.loop ∧ x.transmitter = .idle then
    (s.setPort p { x with loop := x.demand }).note s.capture (.portLoop p x.demand x.mode)
  else s

/-! ## Valid and bad frames (R52, R56, R58) -/

/-- A valid frame counts toward reopening under AUTO_CLOSE (R52). -/
def Port.countValid (x : Port) : Port :=
  if x.mode = .autoClose ∧ x.reopenPending = true ∧ x.up = true then
    if 3 ≤ x.reopenCount + 1 then ({ x with reopenPending := false, reopenCount := 0 }).evalDemand
    else { x with reopenCount := x.reopenCount + 1 }
  else x

/-- A bad frame on a port (R52, R58). -/
def Port.countBad (x : Port) : Port := { x with badFrames := min (x.badFrames + 1) 65535, reopenCount := 0 }

/-- A valid frame's end renews the silence deadline and ends SILENT with its ACTIVE entry (R56). -/
def State.renewSilence (s : State) (p : PortId) : State :=
  let x := s.port p
  let s1 := s.setPort p { x with activity := .active, silenceDeadline := some (s.time.elapsed + x.silenceLimit * 1000) }
  match x.activity with
  | .silent => s1.note s1.capture (.portActive p)
  | .active => s1

/-- The port silence deadline, if it is reached (R56). -/
def State.portSilence (s : State) (p : PortId) : State :=
  let x := s.port p
  if s.reached x.silenceDeadline then
    (s.setPort p { x with activity := .silent, silenceDeadline := none }).raise
      { kind := .portSilent, target := .port p, capture := s.capture, body := .portSilent p x.silenceLimit }
  else s

/-! ## Link reports (R50, R60) -/

/-- A frame that the transmitter is sending is lost on the broken link (R50). -/
def Port.loseSent (x : Port) : Port :=
  match x.transmitter with
  | .idle => x
  | .sending _ _ => { x with sendLost := true }

/-- The port's own fields at link down, once its frame is discarded (R50). -/
def Port.goDown (x : Port) : Port :=
  ({ x.loseSent with
     up := false, reported := true, silenceDeadline := none, reopenCount := 0, awaitingEnd := false }).evalDemand

/-- The port's own fields at link up (R50, R52). -/
def Port.goUp (x : Port) (now : Nat) : Port :=
  ({ x with
     up := true
     reported := true
     activity := .active
     silenceDeadline := some (now + x.silenceLimit * 1000)
     reopenPending := if x.mode = LoopMode.autoClose then true else x.reopenPending
     reopenCount := if x.mode = LoopMode.autoClose then 0 else x.reopenCount }).evalDemand

/-- The first link report after power-on: no entry, and the loop state takes the demand at once (R60). The silence
deadline is 100 000 us away, whatever silence limit is held by then. -/
def Port.firstReport (x : Port) (up : Bool) (now : Nat) : Port :=
  let y := ({ x with
    up := up
    reported := true
    silenceDeadline := if up then some (now + 100000) else none }).evalDemand
  { y with loop := y.demand }

/-- FIRST_LINK_REPORT (R60); a later one is no event (log 13). -/
def State.firstReport (s : State) (p : PortId) (up : Bool) : State :=
  if (s.port p).reported then s else s.modifyPort p (fun x => x.firstReport up s.time.elapsed)

/-- A link-up report after the first, when the link was DOWN (R50); the LINK_UP entry precedes a LOOP entry (log 45). -/
def State.takeLinkUp (s : State) (p : PortId) : State :=
  ((s.modifyPort p (fun x => x.goUp s.time.elapsed)).note s.capture (.portLinkUp p)).applyLoop p

/-- A link-up report (R50, R60). -/
def State.linkUp (s : State) (p : PortId) : State :=
  if (s.port p).reported = false then s.firstReport p true
  else if (s.port p).up then s
  else s.takeLinkUp p

/-! ## SET RING PORT (R52, R59) -/

/-- The port of a code (R189, R193). -/
def portOf : Nat → Option PortId
  | 1 => some .a
  | 2 => some .b
  | _ => none

/-- The loop mode of a code (R189). -/
def loopModeOf : Nat → Option LoopMode
  | 1 => some .auto
  | 2 => some .autoClose
  | 3 => some .alwaysOpen
  | 4 => some .alwaysClosed
  | _ => none

/-- SET RING PORT is judged (R59). -/
def judgeRingPort (port mode limit : Nat) : Result :=
  if (portOf port).isNone = true ∨ (loopModeOf mode).isNone = true then .refusedArgument
  else if clampNat limit 10 10000 = limit then .done
  else .doneClamped

/-- The port with a new mode and its reopen pending (R52, R59). -/
def Port.takeMode (x : Port) (m : LoopMode) : Port :=
  match m with
  | .autoClose => { x with mode := m, reopenPending := if x.up = true ∨ x.mode ≠ m then false else x.reopenPending }
  | _ => { x with mode := m, reopenPending := false, reopenCount := if x.mode = m then x.reopenCount else 0 }

/-- The port with a new silence limit; a deadline present is set again (R59). -/
def Port.takeLimit (x : Port) (limit now : Nat) : Port :=
  { x with silenceLimit := limit, silenceDeadline := x.silenceDeadline.map (fun _ => now + limit * 1000) }

/-- SET RING PORT takes effect (R59). -/
def State.setRingPort (s : State) (port mode limit : Nat) : State :=
  match portOf port, loopModeOf mode with
  | some p, some m =>
    (s.modifyPort p (fun x =>
      ((x.takeMode m).evalDemand).takeLimit (clampNat limit 10 10000) s.time.elapsed)).applyLoop p
  | _, _ => s

end Sys2Proof.Machine
end

