-- ==== Sys2Proof/Machine/Service.lean ====
section
/-! DEFINITION. The service responder: operating states, restart, the judgement of every request and its effect at the
commit, and the error indication (spec/11). -/

namespace Sys2Proof.Machine

open Sys2Proof

/-! ## Operating states (R181, R182) -/

/-- The operating state of a code (R189). -/
def opStateOf : Nat → Option OpState
  | 1 => some .config
  | 2 => some .run
  | _ => none

/-- The part enters RUN (R182). -/
def State.enterRun (s : State) : State :=
  let s1 := { s with service := { s.service with state := .run } }
  ((s1.note s1.capture (.stateChange s.service.state .run .request)).elementsEnterRun).expireDue

/-- The part leaves RUN (R182). -/
def State.leaveRun (s : State) (c : Cause) : State :=
  let s1 := { s with service := { s.service with state := .config } }
  (s1.note s1.capture (.stateChange s.service.state .config c)).elementsLeaveRun

/-- Some record is in a mode other than IGNORE (R181). -/
def State.anyObserved (s : State) : Bool := s.elements.any (fun r => decide (r.mode ≠ .ignore))

/-- The reason for which RUN is refused from CONFIG, if any (R181). -/
def State.runRefusal (s : State) : Option Reason :=
  if s.anyObserved = false then some .noElements
  else if s.time.timeSet = false ∧ s.service.runCondition = true then some .timeUnset
  else none

/-- REQUEST STATE is judged (R181). -/
def State.judgeState (s : State) (code : Nat) : Result × Option Reason :=
  match opStateOf code with
  | none => (.refusedArgument, none)
  | some .config => (.done, none)
  | some .run =>
    if s.service.state = .run then (.done, none)
    else
      match s.runRefusal with
      | some r => (.refusedState, some r)
      | none => (.done, none)

/-- REQUEST STATE takes effect (R181, R182). -/
def State.requestState (s : State) (code : Nat) : State :=
  match opStateOf code, s.service.state with
  | some .run, .config => s.enterRun
  | some .config, .run => s.leaveRun .request
  | _, _ => s

/-- SET RUN CONDITION is judged (R181). -/
def State.judgeRunCondition (s : State) (v : Nat) : Result :=
  if s.service.state = .run then .refusedState
  else if (flagOf v).isSome then .done
  else .refusedArgument

/-- SET RUN CONDITION takes effect (R181). -/
def State.setRunCondition (s : State) (v : Nat) : State :=
  { s with service := { s.service with runCondition := decide (v = 1) } }

/-! ## RESTART (R185) -/

/-- What a restart clears (R185, steps 3 to 7). -/
def State.clearTables (s : State) : State :=
  ({ s with
     elements := []
     checker := { Checker.powerOn with loads := s.checker.loads }
     alarms := { s.alarms with actions := defaultActions }
     service := { s.service with state := .config, error := none } }).evalAlarm

/-- RESTART takes effect (R185). -/
def State.restart (s : State) : State :=
  let s1 := s.note s.capture (.stateRestart s.service.state) true
  let s2 := if s.service.state = .run then s1.leaveRun .restart else s1
  s2.clearTables

/-! ## Judging (R178) -/

/-- The result that a request's own rule gives (R178, section 11.4), with the reason of a refused REQUEST STATE. -/
def State.judge (s : State) : Request → Result × Option Reason
  | .readStatus => (.done, none)
  | .setTimeConfiguration p => (s.judgeTimeConfig p, none)
  | .setLocalOffset o i => (judgeLocalOffset o i, none)
  | .setRingPort p m l => (judgeRingPort p m l, none)
  | .loadElement p => (s.judgeLoad p, none)
  | .unloadElement a => (s.judgeUnload a, none)
  | .setElementMode a m => (s.judgeMode a m, none)
  | .readElement a k => (s.judgeReadElement a k, none)
  | .setTimetableSettings l g => (s.judgeTimetableSettings l g, none)
  | .setChangeover i d => (s.judgeChangeover i d, none)
  | .loadEntry p => (s.judgeLoadEntry p, none)
  | .withdrawEntry i => (s.judgeWithdraw i, none)
  | .erasePeriod p => (s.judgeErase p, none)
  | .readEntry i k => (s.judgeReadEntry i k, none)
  | .readRecord _ => (.done, none)
  | .acknowledgeRecord n => (s.judgeAcknowledge n, none)
  | .setActions n l => (s.judgeActions n l, none)
  | .acknowledgeAlarm t a => (s.judgeAcknowledgeAlarm t a, none)
  | .setClockLine p => (s.judgeClockLine p, none)
  | .requestState v => s.judgeState v
  | .setRunCondition v => (s.judgeRunCondition v, none)
  | .acknowledgeErrorIndication => (.done, none)
  | .restart => (.done, none)

/-- A result is a grant (section 11.2). -/
def Result.granted : Result → Bool
  | .done => true
  | .doneClamped => true
  | _ => false

/-- A result is a refusal (section 11.2). -/
def Result.refusal : Result → Bool
  | .done => false
  | .doneClamped => false
  | .superseded => false
  | _ => true

/-! ## Effects at the commit (R179) -/

/-- The effect of a request that its rule grants; a read has none (R179). -/
def State.effect (s : State) : Request → State
  | .readStatus => s
  | .setTimeConfiguration p => s.setTimeConfig p
  | .setLocalOffset o i => s.setLocalOffset o i
  | .setRingPort p m l => s.setRingPort p m l
  | .loadElement p => s.loadElement p
  | .unloadElement a => s.unloadElement a
  | .setElementMode a m => s.setElementMode a m
  | .readElement _ _ => s
  | .setTimetableSettings l g => s.setTimetableSettings l g
  | .setChangeover i d => s.setChangeover i d
  | .loadEntry p => s.loadEntry p
  | .withdrawEntry i => s.withdrawEntry i
  | .erasePeriod p => s.erasePeriod p
  | .readEntry _ _ => s
  | .readRecord _ => s
  | .acknowledgeRecord n => s.acknowledgeRecord n
  | .setActions n l => s.setActions n l
  | .acknowledgeAlarm t a => s.acknowledgeAlarm t a
  | .setClockLine p => s.setClockLine p
  | .requestState v => s.requestState v
  | .setRunCondition v => s.setRunCondition v
  | .acknowledgeErrorIndication => s
  | .restart => s.restart

/-- A pending request still takes effect at its commit: its rule grants it again against the state as it stands (R179).
ACKNOWLEDGE RECORD, which both operating states accept, always does: it removes nothing when its entry has gone, and the
GAP rule follows (R156). -/
def State.standsAtCommit (s : State) : Request → Bool
  | .acknowledgeRecord _ => true
  | r => (s.judge r).1.granted

/-- A pending request is applied, if it still stands (R179). -/
def State.applyRequest (s : State) (r : Request) : State := if s.standsAtCommit r then s.effect r else s

/-! ## The error indication (R180) -/

/-- A request code is one of the four reads (R180, R191). -/
def isReadCode (c : Byte) : Bool := decide (c = 0x01) || decide (c = 0x13) || decide (c = 0x25) || decide (c = 0x30)

/-- A handed-on request acts on the error indication at the commit (R180). -/
def State.indicate (s : State) (code : Byte) (r : Result) (reason : Option Reason) : State :=
  if isReadCode code then s
  else if r.granted then { s with service := { s.service with error := none } }
  else if r.refusal then
    { s with service :=
      { s.service with error := some { code := code, result := r, reason := reason, stamp := s.stampOf s.capture } } }
  else s

/-- The timetable entry that a WITHDRAW ENTRY named has gone, and the one now held under its id was loaded between the
request's judgement and the commit, by a frame on the other port (R134; log 52). -/
def State.namesAnother (s : State) (q : Request) (judged since : Nat) : Bool :=
  match q with
  | .withdrawEntry i => (s.entry i).any (fun e => decide (judged ≤ e.serial) && decide (e.serial < since))
  | _ => false

/-- A handed-on service request at its frame's commit: the indication, then the request if it was accepted (R134, R179,
R180). `judged` and `since` count the loads applied when it was judged and before this commit. -/
def State.commitService (s : State) (code : Byte) (q : Option Request) (r : Result) (reason : Option Reason)
    (judged since : Nat) : State :=
  let s1 := s.indicate code r reason
  match q with
  | some x => if r.granted = true ∧ s1.namesAnother x judged since = false then s1.applyRequest x else s1
  | none => s1

end Sys2Proof.Machine
end

