-- ==== Sys2Proof/Machine/Layout.lean ====
section
/-! DEFINITION. The octets the part writes: record entries (R193) and the replies of the four reads (R73, R136, R155,
R186, R191). -/

namespace Sys2Proof.Machine

open Sys2Proof

/-! ## Codes (R189) -/

/-- A flag octet. -/
def flagOctet (b : Bool) : List Byte := [if b then 0x01 else 0x00]

/-- One octet of a code. -/
def code (n : Nat) : List Byte := octets 1 n

/-- One octet of a code that may be absent. -/
def optionCode {α : Type} (f : α → Nat) (v : Option α) : List Byte := optionOctets 1 (v.map f)

/-- A stamp's ten octets. -/
def stampOctets (t : Stamp) : List Byte :=
  octets 2 t.day ++ octets 5 t.micros ++ octets 2 t.epoch ++ octets 1 t.quality.rank

/-- A stamp that may be absent. -/
def optionStamp (t : Option Stamp) : List Byte :=
  match t with
  | none => absent 10
  | some x => stampOctets x

/-- A train tag that may be absent: then four octets of 0xFF (log 56). -/
def optionTag (t : Option TrainTag) : List Byte :=
  match t with
  | none => absent 4
  | some x => tagOctets x

/-- A scale value in seconds as an instant of five octets; a day past 65535 is sent modulo 65536 (log 49). -/
def secondsOctets (n : Nat) : List Byte := instantOctets { day := n / 86400, second := n % 86400 }

/-- A centre time carried in an entry: day and nanoseconds of day. -/
def centreOctets (n : Nat) : List Byte := octets 2 (n / Config.nsPerDay) ++ octets 6 (n % Config.nsPerDay)

/-- Results as 0x01 to 0x0D (R191). -/
def Result.code : Result → Nat
  | .done => 1
  | .doneClamped => 2
  | .refusedState => 3
  | .refusedArgument => 4
  | .full => 5
  | .notFound => 6
  | .referenced => 7
  | .idInUse => 8
  | .tooLate => 9
  | .notATimetablePoint => 10
  | .badTolerance => 11
  | .periodNotLoadable => 12
  | .superseded => 13

/-- Reasons (R191). -/
def reasonCode : Option Reason → Nat
  | none => 0
  | some .noElements => 1
  | some .timeUnset => 2

/-- Operating states. -/
def OpState.code : OpState → Nat
  | .config => 1
  | .run => 2

/-- Discipline modes. -/
def Mode.code : Mode → Nat
  | .free => 1
  | .fine => 2
  | .slew => 3
  | .holdover => 4

/-- Reference sources. -/
def sourceCode : Source → Nat
  | .ref1 => 1
  | .ref2 => 2
  | .ring => 3

/-- Qualification states. -/
def Qualification.code : Qualification → Nat
  | .absent => 1
  | .qualifying => 2
  | .qualified => 3
  | .disqualified => 4

/-- Ports. -/
def portCode : PortId → Nat
  | .a => 1
  | .b => 2

/-- Clock lines. -/
def lineCode : LineId → Nat
  | .one => 1
  | .two => 2

/-- Loop modes. -/
def LoopMode.code : LoopMode → Nat
  | .auto => 1
  | .autoClose => 2
  | .alwaysOpen => 3
  | .alwaysClosed => 4

/-- Loop states. -/
def Loop.code : Loop → Nat
  | .isOpen => 1
  | .isClosed => 2

/-- Activities. -/
def Activity.code : Activity → Nat
  | .active => 1
  | .silent => 2

/-- Line states. -/
def LineState.code : LineState → Nat
  | .hold => 1
  | .running => 2
  | .retry => 3
  | .latchedOff => 4

/-- Polarities (the codes are the model's choice, log 60). -/
def Polarity.code : Polarity → Nat
  | .positive => 1
  | .negative => 2

/-- Period tags. -/
def Period.code : Period → Nat
  | .a => 1
  | .b => 2

/-- Tag states. -/
def TagState.code : TagState → Nat
  | .live => 1
  | .draining => 2
  | .standby => 3

/-- Check kinds. -/
def CheckKind.code : CheckKind → Nat
  | .cleared => 1
  | .passed => 2

/-- Entry states. -/
def EntryState.code : EntryState → Nat
  | .pending => 1
  | .matched => 2
  | .missed => 3
  | .unobserved => 4
  | .withdrawn => 5

/-- Element kinds (R193). -/
def ElementKind.code : ElementKind → Nat
  | .signal => 1
  | .point => 2

/-- Element modes. -/
def ElementMode.code : ElementMode → Nat
  | .ignore => 1
  | .observe => 2
  | .supervise => 3
  | .test => 4

/-- Coverage. -/
def Coverage.code : Coverage → Nat
  | .never => 1
  | .observed => 2
  | .lost => 3

/-- Phases after IDLE (log 23). -/
def Phase.code : Phase → Nat
  | .commanded => 2
  | .moving => 3
  | .settling => 4

/-- Targets (R190). -/
def Target.code : Target → Nat
  | .normal => 1
  | .reverse => 2

/-- Detected positions (R190). -/
def Detected.code : Detected → Nat
  | .none => 0
  | .normal => 1
  | .reverse => 2

/-- Lamps (R190). -/
def Lamp.code : Lamp → Nat
  | .proven => 1
  | .dark => 2

/-- Telegram kinds (R190). -/
def TelegramKind.code : TelegramKind → Nat
  | .command => 1
  | .status => 2

/-- Movement outcomes. -/
def MovementOutcome.code : MovementOutcome → Nat
  | .complete => 1
  | .failed => 2
  | .reversed => 3
  | .abandoned => 4
  | .noMove => 5

/-- Verdict classes. -/
def VerdictClass.code : VerdictClass → Nat
  | .early => 1
  | .onTime => 2
  | .late => 3
  | .severe => 4
  | .unplanned => 5
  | .missed => 6
  | .unobserved => 7
  | .withdrawn => 8

/-- Reasons of a withdrawal. -/
def WithdrawReason.code : WithdrawReason → Nat
  | .requested => 1
  | .drainEnd => 2
  | .periodStandby => 3

/-- Reasons of a source change. -/
def SelectReason.code : SelectReason → Nat
  | .qualified => 1
  | .lost => 2
  | .revert => 3
  | .configured => 4

/-- Causes of a state change, REQUEST and then RESTART (the model's choice, log 57). -/
def Cause.code : Cause → Nat
  | .request => 1
  | .restart => 2

/-- Kinds of the action table, numbered in the order of R157's table (R191); so too in a latched fault, in FAULT contents
and in a MOVEMENT entry's fault field (log 48). -/
def ActionKind.code (k : ActionKind) : Nat := k.index + 1

/-- Kinds of a latched fault; ESCALATED follows the action table's kinds (log 23). -/
def LatchKind.code : LatchKind → Nat
  | .kind k => k.code
  | .escalated => 28

/-- Actions (R191). -/
def Action.code : Action → Nat
  | .off => 0
  | .record => 1
  | .alert => 2
  | .latch => 3

/-- The target of an ALARM_ACK entry (R160). R193 gives it no octets: that they are R191's target code and an element address,
which the other targets send as absent, is the model's choice (log 59). -/
def targetOctets : LatchTarget → List Byte
  | .element a => code 1 ++ octets 2 a
  | .time => code 2 ++ absent 2
  | .line .one => code 3 ++ absent 2
  | .line .two => code 4 ++ absent 2
  | .port .a => code 5 ++ absent 2
  | .port .b => code 6 ++ absent 2

/-- Pads or cuts octets to a length with 0x00 (R191, R193). -/
def padTo (n : Nat) (l : List Byte) : List Byte := (l ++ List.replicate (n - l.length) 0x00).take n

/-- The octets of a value: the body octets that carried it (R193). -/
def valueBody : Value → List Byte
  | .target t => code t.code
  | .aspect a none => code a
  | .aspect a (some t) => code a ++ tagOctets t
  | .detected d => code d.code
  | .shown a l => code a ++ code l.code

/-- A value's five octets; absent as 0xFF (R193). -/
def valueOctets (v : Option Value) : List Byte :=
  match v with
  | none => absent 5
  | some x => padTo 5 (valueBody x)

/-- The shown aspect and lamp, or the position, of a status that may be absent, in `n` octets. -/
def statusOctets (n : Nat) (v : Option Value) : List Byte :=
  match v with
  | none => absent n
  | some x => padTo n (valueBody x)

/-! ## Record entries (R154, R193) -/

/-- The type number of a fault (R193). -/
def FaultDetail.type : FaultDetail → Nat
  | .failedToStart _ _ _ _ => 1
  | .failedToDetect _ _ _ _ _ _ => 2
  | .chatter _ _ _ => 3
  | .slowMovement _ _ => 4
  | .trend _ _ => 5
  | .detectionLost _ => 6
  | .uncommandedMove _ _ _ => 7
  | .aspectNotShown _ _ _ _ _ => 8
  | .signalDropped _ _ _ => 9
  | .lampDark _ _ => 10
  | .coverageLost _ _ => 11

/-- The kind and type numbers of an entry (R193). -/
def EntryBody.kindType : EntryBody → Nat × Nat
  | .element _ _ _ _ _ _ _ _ => (1, 0)
  | .movement _ => (2, 0)
  | .fault _ d => (3, d.type)
  | .verdict v => (4, v.verdict.code)
  | .timeSet _ _ _ _ _ => (5, 1)
  | .timeStep _ _ _ _ _ => (5, 2)
  | .timeQuality _ _ _ => (5, 3)
  | .timeSourceChange _ _ _ => (5, 4)
  | .timeHoldover _ _ _ => (5, 5)
  | .timeOffsetChange _ _ _ => (5, 6)
  | .portLinkDown _ _ => (6, 1)
  | .portLinkUp _ => (6, 2)
  | .portSilent _ _ => (6, 3)
  | .portActive _ => (6, 4)
  | .portJabber _ => (6, 5)
  | .portLoop _ _ _ => (6, 6)
  | .lineOpen _ _ _ _ => (7, 1)
  | .lineShort _ _ _ _ _ => (7, 2)
  | .lineEscalated _ _ _ _ => (7, 3)
  | .lineSet _ _ _ _ _ _ _ _ => (7, 4)
  | .statePowerOn _ => (8, 1)
  | .stateRestart _ => (8, 2)
  | .stateChange _ _ _ => (8, 3)
  | .stateChangeover _ _ _ _ => (8, 4)
  | .stateDrainEnd _ _ => (8, 5)
  | .stateAlarmAck _ _ => (8, 6)
  | .gap _ => (9, 0)

/-- The details of a fault (R88, R109, R122). -/
def FaultDetail.octets : FaultDetail → List Byte
  | .failedToStart t o l c => code t.code ++ optionCode Detected.code o ++ Machine.octets 2 l ++ stampOctets c
  | .failedToDetect t o l v x b =>
    code t.code ++ optionCode Detected.code o ++ code l ++ statusOctets 1 v ++ optionStamp x ++ code b
  | .chatter t b l => code t.code ++ code b ++ code l
  | .slowMovement d w => Machine.octets 2 d ++ Machine.octets 2 w
  | .trend l w => l.flatMap (Machine.octets 2) ++ Machine.octets 2 w
  | .detectionLost v => statusOctets 1 (some v)
  | .uncommandedMove t d v => code t.code ++ code d.code ++ statusOctets 1 v
  | .aspectNotShown a t l c v => code a ++ optionTag t ++ Machine.octets 2 l ++ stampOctets c ++ statusOctets 2 v
  | .signalDropped p k t => code p ++ code k ++ optionTag t
  | .lampDark a k => code a ++ optionOctets 1 k
  | .coverageLost l t => Machine.octets 2 l ++ optionStamp t

/-- The contents of a MOVEMENT entry (R108; its fault's number: log 48). -/
def MovementEntry.octets (m : MovementEntry) : List Byte :=
  Machine.octets 2 m.element ++ code m.outcome.code ++ code m.target.code ++ optionCode Detected.code m.origin
    ++ stampOctets m.command ++ optionStamp m.leave ++ optionStamp m.arrival ++ optionOctets 2 m.duration
    ++ code m.bounces ++ optionCode ActionKind.code m.fault

/-- A deviation that may be absent. -/
def deviationOctets (d : Option Int) : List Byte := optionSignedOctets d

/-- The contents of a VERDICT entry (R139). -/
def VerdictEntry.octets (v : VerdictEntry) : List Byte :=
  code v.verdict.code ++ optionOctets 2 v.id ++ optionCode Period.code v.period ++ tagOctets v.train
    ++ Machine.octets 2 v.element ++ code v.check.code ++ optionInstantOctets v.scheduled ++ optionStamp v.event
    ++ deviationOctets v.deviation ++ optionCode WithdrawReason.code v.reason ++ flagOctet v.qualified

/-- The contents of a set or a step (R10, R12). -/
def moveOctets (before after : Nat) (e : Int) (x : Source) (epoch : Nat) : List Byte :=
  centreOctets before ++ centreOctets after ++ signedOctets 8 e ++ code (sourceCode x) ++ octets 2 epoch

/-- The contents of an entry, before padding (R193; a fault kind's number within FAULT: log 48). -/
def EntryBody.octets : EntryBody → List Byte
  | .element a k t n old new p _ =>
    Machine.octets 2 a ++ code k.code ++ code t.code ++ code n ++ valueOctets old ++ valueOctets (some new)
      ++ code (portCode p)
  | .movement m => m.octets
  | .fault a d => Machine.octets 2 a ++ code d.kind.code ++ d.octets
  | .verdict v => v.octets
  | .timeSet b a e x n => moveOctets b a e x n
  | .timeStep b a e x n => moveOctets b a e x n
  | .timeQuality o n u => code o.rank ++ code n.rank ++ Machine.octets 4 u
  | .timeSourceChange o n r => optionCode sourceCode o ++ optionCode sourceCode n ++ code r.code
  | .timeHoldover x u i => code (sourceCode x) ++ Machine.octets 4 u ++ signedOctets 3 i
  | .timeOffsetChange o n i => signedOctets 2 o ++ signedOctets 2 n ++ optionInstantOctets i
  | .portLinkDown p n => code (portCode p) ++ Machine.octets 2 n
  | .portLinkUp p => code (portCode p)
  | .portSilent p l => code (portCode p) ++ Machine.octets 2 l
  | .portActive p => code (portCode p)
  | .portJabber p => code (portCode p)
  | .portLoop p l m => code (portCode p) ++ code l.code ++ code m.code
  | .lineOpen l s t p => code (lineCode l) ++ optionOctets 2 s ++ Machine.octets 2 t ++ code p.code
  | .lineShort l s p e n => code (lineCode l) ++ optionOctets 2 s ++ code p.code ++ Machine.octets 2 e ++ code n
  | .lineEscalated l s n r => code (lineCode l) ++ optionOctets 2 s ++ code n ++ Machine.octets 2 r
  | .lineSet l s s' p p' e k x =>
    code (lineCode l) ++ optionOctets 2 s ++ optionCode Polarity.code p ++ optionOctets 2 s'
      ++ optionCode Polarity.code p' ++ flagOctet e ++ code k ++ code x.code
  | .statePowerOn a => Machine.octets 2 a
  | .stateRestart o => code o.code
  | .stateChange o n c => code o.code ++ code n.code ++ code c.code
  | .stateChangeover d l i e => code d.code ++ code l.code ++ instantOctets i ++ secondsOctets e
  | .stateDrainEnd p n => code p.code ++ Machine.octets 2 n
  | .stateAlarmAck t f => targetOctets t ++ code f.kind.code ++ stampOctets f.stamp
  | .gap t => stampOctets t.first ++ stampOctets t.last ++ Machine.octets 2 t.routine ++ Machine.octets 2 t.alarm

/-- The flag bits of an entry (R193). -/
def Entry.flags (e : Entry) : Nat :=
  e.adjusted.toNat + 2 * e.alarm.toNat + 4 * e.latch.toNat + 8 * e.test.toNat

/-- The sixty-four octets of an entry (R193). -/
def Entry.octets (e : Entry) : List Byte :=
  Machine.octets 4 e.sequence.toNat ++ code e.body.kindType.1 ++ code e.body.kindType.2 ++ stampOctets e.stamp
    ++ code e.flags ++ code ((e.action.map Action.code).getD 0) ++ padTo 46 e.body.octets

/-! ## READ RECORD (R155, R191) -/

/-- The reply area of READ RECORD. -/
def State.recordReply (s : State) (f : Word32) : List Byte :=
  let l := s.record.returned f
  padTo 268
    (code l.length ++ [0x00] ++ optionOctets 4 (l.head?.map (fun e => e.sequence.toNat))
      ++ octets 4 s.record.next.toNat ++ octets 2 s.record.occupancy ++ l.flatMap Entry.octets)

/-! ## READ ELEMENT (R73) -/

/-- A held value with its stale marker; the value in the five octets of R193 (log 47). -/
def heldOctets (h : Option Held) : List Byte :=
  match h with
  | none => absent 6
  | some v => valueOctets (some v.value) ++ flagOctet v.stale

/-- A latched fault that may be absent. -/
def latchedOctets (f : Option Latched) : List Byte :=
  match f with
  | none => absent 11
  | some x => code x.kind.code ++ stampOctets x.stamp

/-- The timetable-point flag and the limits of R62's table, those of the other kind absent (R189). -/
def ElementRecord.limitOctets (r : ElementRecord) : List Byte :=
  match r.part with
  | .signal g => flagOctet g.timetablePoint ++ octets 2 r.silenceLimit ++ absent 8 ++ octets 2 g.confirmLimit
  | .point p =>
    absent 1 ++ octets 2 r.silenceLimit ++ octets 2 p.startLimit ++ octets 1 p.runLimit ++ octets 2 p.settleTime
      ++ octets 1 p.maxBounces ++ octets 2 p.warning ++ absent 2

/-- The duration history in four places, oldest first, those not filled last and as 0xFF (log 55). -/
def historyOctets (l : List Nat) : List Byte := l.flatMap (octets 2) ++ absent (8 - 2 * l.length)

/-- A point's phase, target, bounce count and duration history (R73). -/
def PointPart.octets (p : PointPart) : List Byte :=
  (match p.movement with
    | none => code 1 ++ absent 2
    | some m => code m.phase.code ++ code m.target.code ++ code m.bounces)
    ++ historyOctets p.history

/-- A signal's cleared-for and confirmation pending (R73). -/
def SignalPart.octets (g : SignalPart) : List Byte :=
  optionTag g.clearedFor
    ++ match g.confirmation with
      | none => absent 6
      | some k => code k.aspect ++ optionTag k.tag ++ flagOctet k.overdue

/-- The two groups of fields, that of the other kind absent (R189). -/
def ElementRecord.partOctets (r : ElementRecord) : List Byte :=
  match r.part with
  | .point p => p.octets ++ absent 10
  | .signal g => absent 11 ++ g.octets

/-- The fields that READ ELEMENT reports of a record (R73). -/
def ElementRecord.octets (r : ElementRecord) : List Byte :=
  Machine.octets 2 r.address ++ code r.kind.code ++ code r.mode.code ++ r.limitOctets ++ heldOctets r.lastCommand
    ++ heldOctets r.lastStatus ++ optionOctets 1 r.commandSequence ++ optionOctets 1 r.statusSequence
    ++ code r.coverage.code ++ optionStamp r.regained ++ latchedOctets r.latched ++ r.partOctets
    ++ Machine.octets 2 r.references

/-- The reply area of READ ELEMENT: the record count, and the fields of a record found (R73, R191; log 41). -/
def State.elementReply (s : State) (r : Option ElementRecord) : List Byte :=
  padTo 96 (octets 2 s.elements.length ++ (r.map ElementRecord.octets).getD [])

/-! ## READ ENTRY (R136) -/

/-- A match record that may be absent. -/
def matchOctets (m : Option (Stamp × Int)) : List Byte :=
  match m with
  | none => absent 10 ++ deviationOctets none
  | some x => stampOctets x.1 ++ deviationOctets (some x.2)

/-- The fields that READ ENTRY reports of an entry (R136). -/
def TimetableEntry.octets (e : TimetableEntry) : List Byte :=
  Machine.octets 2 e.id ++ code e.period.code ++ tagOctets e.train ++ Machine.octets 2 e.element ++ code e.check.code
    ++ instantOctets e.scheduled ++ Machine.octets 2 e.early ++ Machine.octets 2 e.late ++ Machine.octets 2 e.severe
    ++ signedOctets 5 e.windowStart ++ Machine.octets 5 e.expiry ++ code e.state.code ++ matchOctets e.matched

/-- The reply area of READ ENTRY: the entry count, and the fields of an entry found (R136, R191; log 41). -/
def State.entryReply (s : State) (e : Option TimetableEntry) : List Byte :=
  padTo 48 (octets 2 s.checker.store.length ++ (e.map TimetableEntry.octets).getD [])

/-! ## READ STATUS (R186) -/

/-- The part's own group. -/
def State.partGroup (s : State) : List Byte :=
  octets 2 s.service.stationAddress ++ code s.service.state.code ++ flagOctet s.service.runCondition
    ++ match s.service.error with
      | none => absent 13
      | some e => [e.code] ++ code e.result.code ++ code (reasonCode e.reason) ++ stampOctets e.stamp

/-- A pending offset change that may be absent. -/
def pendingOctets (o : Option PendingOffset) : List Byte :=
  match o with
  | none => optionSignedOctets none ++ absent 5
  | some x => signedOctets 2 x.offset ++ instantOctets x.instant

/-- The time group. -/
def State.timeGroup (s : State) : List Byte :=
  flagOctet s.time.timeSet ++ code s.time.mode.code ++ code s.time.quality.rank ++ octets 4 s.time.u
    ++ octets 2 s.time.epoch ++ flagOctet s.time.held ++ stampOctets (s.stampOf s.capture)
    ++ signedOctets 2 s.time.localOffset ++ pendingOctets s.time.pendingOffset

/-- One source of the references group. -/
def State.sourceOctets (s : State) (x : Source) : List Byte :=
  flagOctet (s.enabled x) ++ code (s.source x).state.code ++ code (s.source x).good ++ code (s.source x).bad

/-- The message counter of the held message of a wired reference. -/
def State.counterOctets (s : State) (w : Wired) : List Byte :=
  optionOctets 1 ((s.wired w).message.bind (fun m => m.contents.map (·.counter)))

/-- The references group. -/
def State.referenceGroup (s : State) : List Byte :=
  optionCode sourceCode s.refs.selected ++ allSources.flatMap s.sourceOctets ++ s.counterOctets .ref1
    ++ s.counterOctets .ref2

/-- The record group. -/
def State.recordGroup (s : State) : List Byte :=
  octets 2 s.record.occupancy ++ optionOctets 4 (s.record.entries.head?.map (fun e => e.sequence.toNat))
    ++ optionOctets 4 (s.record.entries.getLast?.map (fun e => e.sequence.toNat)) ++ octets 2 s.record.alarmCount
    ++ flagOctet s.record.tally.isSome

/-- The alarms group. -/
def State.alarmGroup (s : State) : List Byte :=
  flagOctet s.alarms.output ++ latchedOctets s.alarms.time ++ latchedOctets s.alarms.line1
    ++ latchedOctets s.alarms.line2 ++ latchedOctets s.alarms.portA ++ latchedOctets s.alarms.portB
    ++ octets 2 (s.elements.filter (fun r => r.latched.isSome)).length ++ s.alarms.actions.flatMap (fun a => code a.code)

/-- One port of the ports group. -/
def Port.octets (x : Port) : List Byte :=
  code (if x.up then 2 else 1) ++ code x.mode.code ++ code x.loop.code ++ code x.activity.code
    ++ Machine.octets 2 x.badFrames

/-- The target position that READ STATUS reports (R164). -/
def State.reportedTarget (s : State) (x : Line) : Option Nat :=
  if x.shown.isSome ∧ s.time.timeSet = true then some (s.time.target x.step) else none

/-- One line of the lines group (R164, R186). That an unknown shown position and an unknown polarity are sent as absent is the
model's choice (log 60). -/
def State.lineOctets (s : State) (x : Line) : List Byte :=
  code x.state.code ++ flagOctet x.enable ++ code x.step ++ optionOctets 2 x.shown ++ optionCode Polarity.code x.polarity
    ++ optionOctets 2 (s.reportedTarget x) ++ code x.shortCount ++ flagOctet x.pulse.isSome

/-- A changeover schedule that may be absent. -/
def scheduleOctets (c : Option Schedule) : List Byte :=
  match c with
  | none => absent 7
  | some x => instantOctets x.instant ++ octets 2 x.drain

/-- A drain end that may be absent. -/
def drainEndOctets (d : Option Nat) : List Byte :=
  match d with
  | none => absent 5
  | some x => secondsOctets x

/-- The elements and timetable group. -/
def State.timetableGroup (s : State) : List Byte :=
  octets 2 s.elements.length ++ octets 2 s.checker.store.length ++ code s.checker.tagA.code ++ code s.checker.tagB.code
    ++ scheduleOctets s.checker.schedule ++ drainEndOctets s.checker.drainEnd ++ octets 2 s.checker.lead
    ++ octets 2 s.checker.grace

/-- The reply area of READ STATUS (R186, R191). -/
def State.statusReply (s : State) : List Byte :=
  padTo 224
    (s.partGroup ++ s.timeGroup ++ s.referenceGroup ++ s.recordGroup ++ s.alarmGroup ++ s.portA.octets
      ++ s.portB.octets ++ s.lineOctets s.line1 ++ s.lineOctets s.line2 ++ s.timetableGroup)

/-! ## Replies -/

/-- The reply area of a request answered with data, from the state as it stands (R178); none for every other. -/
def State.reply (s : State) : Request → Option (List Byte)
  | .readStatus => some s.statusReply
  | .readElement a k => some (s.elementReply ((searchOf k).bind (s.findElement a)))
  | .readEntry i k => some (s.entryReply ((searchOf k).bind (s.findEntry i)))
  | .readRecord f => some (s.recordReply f)
  | _ => none

end Sys2Proof.Machine
end

