-- ==== Sys2Proof/Machine/Ring.lean ====
section
/-! DEFINITION. Frames and telegrams as they pass: routing, parsing, insertions, checks, the cut, the frame's end with
its commit or discard, and link down (spec/03, spec/05, R41, R177, R178, R192). -/

namespace Sys2Proof.Machine

open Sys2Proof

/-! ## Frame start (R54, R55) -/

/-- The port a frame received on `p` leaves through (R54). -/
def State.routeOf (s : State) (p : PortId) : PortId :=
  match (s.port p.other).loop with
  | .isOpen => p.other
  | .isClosed => p

/-- A frame on this port is processed (R55). -/
def State.processes (s : State) (p : PortId) : Bool :=
  match p with
  | .a => true
  | .b => !s.portA.up

/-- A frame that begins with these octets. -/
def Frame.begin (head : List Byte) (through : Option PortId) (processed : Bool) : Frame :=
  { received := head, sent := head, through := through, processed := processed, parsed := 0, inserted := false,
    items := [], telegram := none }

/-- The port can take a new frame: link up, none in flight, no cut frame's end awaited (R50, R57). -/
def Port.takesFrame (x : Port) : Bool := x.up && x.frame.isNone && !x.awaitingEnd

/-- The transmitter takes a frame; one begun with the link down is lost (R54). -/
def Port.claim (x : Port) (src : PortId) : Port := { x with transmitter := .sending src none, sendLost := !x.up }

/-- FRAME_START (R43, R54, R55, R76); `head` holds the octets before the first telegram. -/
def State.frameStart (s : State) (p : PortId) (head : List Byte) : State :=
  if (s.port p).takesFrame then
    let t := s.routeOf p
    if (s.port t).transmitter = .idle then
      (s.modifyPort p (fun x => { x with frame := some (Frame.begin head (some t) (s.processes p)) })).modifyPort t
        (fun x => x.claim p)
    else s.modifyPort p (fun x => { x with frame := some (Frame.begin head none (s.processes p)) })
  else s

/-! ## Frames (R43, R44, R190) -/

/-- The ring ethertype (R190). -/
def Frame.isRing (f : Frame) : Bool := decide (field f.received 12 2 = 0x9A42)

/-- The telegram count of the ring header (R190). -/
def Frame.count (f : Frame) : Nat := field f.received 16 1

/-- A telegram with these octets is within the parse limits (R44). -/
def Frame.mayParse (f : Frame) (o : List Byte) : Bool :=
  f.isRing && decide (f.parsed < f.count) && decide (f.parsed < 64) && f.telegram.isNone && decide (6 ≤ o.length)

/-- Octets that pass unparsed. -/
def Frame.pass (f : Frame) (o : List Byte) : Frame := { f with received := f.received ++ o, sent := f.sent ++ o }

/-- The octets of an open telegram join those of its frame. -/
def Frame.flush (f : Frame) : Frame :=
  match f.telegram with
  | none => f
  | some t =>
    { f with received := f.received ++ t.received, sent := f.sent ++ t.sent, inserted := f.inserted || t.inserted,
             telegram := none }

/-- Writes a frame in flight back to its port. -/
def State.setFrame (s : State) (p : PortId) (f : Frame) : State := s.modifyPort p (fun x => { x with frame := some f })

/-! ## Telegrams (R45, R190) -/

/-- How a parsed telegram is classified (R45). -/
inductive TelegramClass where
  | element (k : TelegramKind)
  | time
  | service
  | other
  deriving DecidableEq, Repr

/-- The class of a kind code and an address (R45, R190). -/
def classOf (kind address : Nat) : TelegramClass :=
  match kind with
  | 0x01 => if isElementAddress address then .element .command else .other
  | 0x02 => if isElementAddress address then .element .status else .other
  | 0x10 => .time
  | 0x20 => .service
  | _ => .other

/-- Octets written over those at a place, as far as they reach (R48). -/
def overlay (l : List Byte) (i : Nat) (new : List Byte) : List Byte :=
  (l.take i ++ new ++ l.drop (i + new.length)).take l.length

/-- A telegram that passes with these octets, nothing inserted. -/
def Frame.passing (f : Frame) (o : List Byte) (c : Capture) (content : Option ItemContent) : OpenTelegram :=
  { received := o, sent := o, inserted := false, position := f.parsed + 1, capture := c, content := content }

/-- A telegram is opened: it counts among those parsed, and waits for its check (R44). -/
def Frame.open_ (f : Frame) (t : OpenTelegram) : Frame := { f with parsed := f.parsed + 1, telegram := some t }

/-- A telegram's octets hold its whole header and body (R190). -/
def isWhole (o : List Byte) : Bool := decide (o.length = 6 + field o 4 2)

/-- What an element telegram leaves when its check is good (R76). -/
def elementContent (k : TelegramKind) (o : List Byte) : Option ItemContent :=
  if isWhole o then some (.element k (field o 0 2) (field o 3 1) (o.drop 6)) else none

/-! ## TIME slots (R41) -/

/-- The part fills TIME slots now, as time master (R41). -/
def State.fillsSlots (s : State) : Bool :=
  s.time.config.masterEnable && s.time.timeSet && decide (s.time.quality.rank ≤ 2)

/-- The fourteen octets that the part writes into a slot (R41, R190; log 26). The epoch, the class and the rate are those of
the slot's arrival: a step or a change of class before its first octet has left acts on the next slot (log 50). -/
def State.slotOctets (s : State) : List Byte :=
  let c := (s.time.advance Config.forwardPeriods).centre
  [0x01] ++ octets 2 s.service.stationAddress ++ centreOctets c ++ octets 2 s.time.epoch ++ code s.time.quality.rank

/-- A TIME telegram as it passes (R32, R41, R192). -/
def State.timePass (s : State) (f : Frame) (o : List Byte) : OpenTelegram :=
  let t := f.passing o s.capture (if isWhole o then some (.time (field o 0 2) (field o 3 1) (o.drop 6)) else none)
  if f.processed = true ∧ field o 4 2 = 14 ∧ s.fillsSlots = true then
    { t with sent := overlay o 6 s.slotOctets, inserted := true }
  else t

/-! ## Service telegrams (R177, R178, R192) -/

/-- A SERVICE telegram as the responder finds it: its code, the place of its result, and its request when its form is
right (R191, R192). -/
structure ServiceForm where
  code : Byte
  resultAt : Nat
  request : Option Request
  deriving DecidableEq, Repr

/-- Reads the form of a SERVICE telegram; none when its body is empty (R192). -/
def serviceForm (o : List Byte) : Option ServiceForm :=
  let n := field o 4 2
  if n = 0 then none
  else
    match lengthsOf (field o 6 1) with
    | none => some { code := o.getD 6 0, resultAt := 5 + n, request := none }
    | some (p, r) =>
      if n < p + 2 then some { code := o.getD 6 0, resultAt := 5 + n, request := none }
      else
        some
          { code := o.getD 6 0, resultAt := 7 + p,
            request := if n = p + 2 + r then readRequest (field o 6 1) ((o.drop 7).take p) else none }

/-- The part's own station address, as a telegram carries it. -/
def State.isStation (s : State) (address : Nat) : Bool := decide (address = s.service.stationAddress)

/-- An accepted RESTART lies among the frame's pending requests (R178, R184). -/
def Frame.superseding (f : Frame) : Bool :=
  f.items.any (fun i =>
    match i.content with
    | .service _ (some .restart) r _ _ => r.granted
    | _ => false)

/-- A request acknowledges the record. -/
def isAcknowledge : Request → Bool
  | .acknowledgeRecord _ => true
  | _ => false

/-- A request is one of the four reads. -/
def isRead : Request → Bool
  | .readStatus => true
  | .readElement _ _ => true
  | .readEntry _ _ => true
  | .readRecord _ => true
  | _ => false

/-- The granted requests pending in a frame, in order. -/
def Frame.grantedRequests (f : Frame) : List Request :=
  f.items.filterMap (fun i =>
    match i.content with
    | .service _ (some q) r _ _ => if r.granted then some q else none
    | _ => none)

/-- The state against which a request's rule judges: for a read the state as it stands (R178), for ACKNOWLEDGE RECORD
after the frame's pending acknowledges (R156), else after all its pending requests (R178). -/
def State.judgedAgainst (s : State) (f : Frame) (q : Request) : State :=
  if isRead q then s
  else if isAcknowledge q then (f.grantedRequests.filter isAcknowledge).foldl State.applyRequest s
  else f.grantedRequests.foldl State.applyRequest s

/-- The answer to a request handed on (R178). -/
def State.answer (s : State) (f : Frame) (q : Option Request) : Result × Option Reason :=
  match q with
  | none => (.refusedArgument, none)
  | some r => if f.superseding then (.superseded, none) else (s.judgedAgainst f r).judge r

/-- A result comes with data where its request returns data: a grant, and the NOT_FOUND of a search, whose reply still
carries the count (R73, R136, R178; log 41). -/
def Result.answersData (r : Result) : Bool := r.granted || decide (r = .notFound)

/-- The reply octets of a request answered with data (R178). -/
def State.replyOf (s : State) (q : Option Request) (r : Result) : List Byte :=
  match q with
  | some x => if r.answersData then (s.reply x).getD [] else []
  | none => []

/-- A SERVICE telegram handed to the responder: judged, its result and any reply written (R177, R178). -/
def State.answerPass (s : State) (f : Frame) (o : List Byte) (v : ServiceForm) : OpenTelegram :=
  let a := s.answer f v.request
  { f.passing o s.capture (if isWhole o then some (.service v.code v.request a.1 a.2 s.checker.loads) else none) with
    sent := overlay o v.resultAt (code a.1.code ++ s.replyOf v.request a.1), inserted := true }

/-- A SERVICE telegram of this form is handed to the responder (R177). -/
def State.handsOn (s : State) (f : Frame) (address : Nat) (result : Byte) : Bool :=
  f.processed && s.isStation address && decide (result = 0x00)

/-- A SERVICE telegram as it passes (R177, R192). -/
def State.servicePass (s : State) (f : Frame) (o : List Byte) : OpenTelegram :=
  match serviceForm o with
  | none => f.passing o s.capture none
  | some v =>
    if s.handsOn f (field o 0 2) (o.getD v.resultAt 0xFF) then s.answerPass f o v else f.passing o s.capture none

/-! ## TELEGRAM_PARSE and TELEGRAM_CHECK (R44, R45, R47, R48) -/

/-- A telegram is opened by its class (R45). -/
def State.openTelegram (s : State) (f : Frame) (o : List Byte) : OpenTelegram :=
  match classOf (field o 2 1) (field o 0 2) with
  | .element k => f.passing o s.capture (elementContent k o)
  | .time => s.timePass f o
  | .service => s.servicePass f o
  | .other => f.passing o s.capture none

/-- TELEGRAM_PARSE (R44); `o` holds the telegram's header and body. -/
def State.telegramParse (s : State) (p : PortId) (o : List Byte) : State :=
  match (s.port p).frame with
  | none => s
  | some f => s.setFrame p (if f.mayParse o then f.open_ (s.openTelegram f o) else f.flush.pass o)

/-- A structured service request passes: the SERVICE telegram that carries it (R177, R178; log 9). -/
def State.passRequest (s : State) (t : Telegram) (q : Request) : State :=
  match (s.port t.port).frame with
  | none => s
  | some f =>
    let o := serviceOctets t q
    let at_ := 7 + (parameterOctets q).length
    if f.mayParse o then
      s.setFrame t.port
        (f.open_
          (if s.handsOn f t.address.toNat t.result then
            s.answerPass f o { code := codeOf q, resultAt := at_, request := some q }
          else f.passing o s.capture none))
    else s.setFrame t.port (f.flush.pass o)

/-- The item that a telegram leaves (R76). -/
def OpenTelegram.item (t : OpenTelegram) (ends : Nat) : Option Item :=
  t.content.map (fun c => { position := t.position, ends := ends, capture := t.capture, content := c })

/-- The check that is sent for a telegram (R48). -/
def OpenTelegram.sentCheck (t : OpenTelegram) (check : Word16) : Word16 :=
  if t.inserted then (if crc16 t.received = check then crc16 t.sent else ~~~(crc16 t.sent)) else check

/-- An open telegram's check arrives: a good one lets it join the frame's pending list (R47, R48, R76). -/
def Frame.close (f : Frame) (t : OpenTelegram) (check : Word16) : Frame :=
  let g := f.flush
  let ends := g.received.length + 2
  { g with
    received := g.received ++ octets 2 check.toNat
    sent := g.sent ++ octets 2 (t.sentCheck check).toNat
    items := g.items ++ if crc16 t.received = check then (t.item ends).toList else [] }

/-- TELEGRAM_CHECK (R47). -/
def State.telegramCheck (s : State) (p : PortId) (check : Word16) : State :=
  match (s.port p).frame with
  | none => s
  | some f =>
    match f.telegram with
    | some t => s.setFrame p (f.close t check)
    | none => s.setFrame p (f.pass (octets 2 check.toNat))

/-! ## Ends of a frame (R48, R50, R57, R58) -/

/-- Octets ended with a bad frame check: the complement of the correct one (R48, R58; after a cut the model's choice, log 58). -/
def badlyEnded (o : List Byte) : List Byte := o ++ checkOctets (~~~(crc32 o))

/-- The octets that leave for a frame are complete (R54). -/
def State.finishSending (s : State) (p : PortId) (f : Frame) (o : List Byte) : State :=
  match f.through with
  | some t => s.modifyPort t (fun x => { x with transmitter := .sending p (some o) })
  | none => s

/-- The transmitter becomes idle; what it sent reached the neighbour if the link was up all the while (R50, R54). -/
def Port.idleAfter (x : Port) (o : List Byte) : Port :=
  { x with transmitter := .idle, sendLost := false, lastSent := if x.sendLost then x.lastSent else o }

/-- LAST_OCTET_LEFT (R54). -/
def State.lastOctetLeft (s : State) (p : PortId) : State :=
  match (s.port p).transmitter with
  | .sending _ (some o) => s.modifyPort p (fun x => x.idleAfter o)
  | .sending _ none => s
  | .idle => s

/-- The claim of a cut frame on its transmitter ends at once (R57). -/
def State.releaseCut (s : State) (f : Frame) (o : List Byte) : State :=
  match f.through with
  | some t => s.modifyPort t (fun x => x.idleAfter o)
  | none => s

/-- A frame is cut at its 1537th octet (R57). That the bad frame check of the copy is the complement of the correct one over
the octets sent is the model's choice (log 58). -/
def State.cut (s : State) (p : PortId) (f : Frame) : State :=
  let s1 := s.modifyPort p (fun x => { x.countBad with frame := none, awaitingEnd := true })
  (s1.releaseCut f (badlyEnded (f.sent.take 1536))).raise
    { kind := .jabber, target := .port p, capture := s.capture, body := .portJabber p }

/-- FRAME_CUT (R57); `o` holds the frame's octets up to its 1537th. -/
def State.frameCut (s : State) (p : PortId) (o : List Byte) : State :=
  match (s.port p).frame with
  | none => s
  | some f =>
    let g := f.flush.pass o
    if 1537 ≤ g.received.length then s.cut p g else s.setFrame p g

/-! ## Frame end (R47, R52, R56, R58, R77, R78) -/

/-- An item is applied at a commit before which `since` loads had been applied (R78). -/
def State.commitItem (p : PortId) (processed : Bool) (since : Nat) (s : State) (i : Item) : State :=
  match i.content with
  | .element k a n b => s.applyElement { kind := k, address := a, sequence := n, capture := i.capture, port := p } b
  | .time _ _ b => if processed then s.ringTelegram b i.capture else s
  | .service c q r x judged => s.commitService c q r x judged since

/-- The octets of a frame before its frame check. -/
def Frame.checked (f : Frame) : List Byte := f.received.take (f.received.length - 4)

/-- The received frame check is good (R47). -/
def Frame.checkGood (f : Frame) : Bool :=
  decide (f.received.drop (f.received.length - 4) = checkOctets (crc32 f.checked))

/-- The frame ends good: 64 to 1536 octets and a good frame check (R43, R47). -/
def Frame.endsGood (f : Frame) : Bool :=
  f.checkGood && decide (64 ≤ f.received.length) && decide (f.received.length ≤ 1536)

/-- The octets that leave for a frame that has come to its end (R48, R58). -/
def Frame.sentWhole (f : Frame) : List Byte :=
  let o := f.sent.take (f.sent.length - 4)
  let short := decide (f.received.length < 64)
  if f.inserted || (short && f.checkGood) then
    if f.checkGood && !short then o ++ checkOctets (crc32 o) else badlyEnded o
  else f.sent

/-- The items that stand at the frame's end: those whose telegrams ended before the frame check (R44, R77). -/
def Frame.standing (f : Frame) : List Item := f.items.filter (fun i => decide (i.ends + 4 ≤ f.received.length))

/-- A valid frame's items are committed in order of position, and the port counts it (R52, R56, R78). -/
def State.commit (s : State) (p : PortId) (f : Frame) : State :=
  let s1 := f.standing.foldl (State.commitItem p f.processed s.checker.loads) s
  ((s1.modifyPort p Port.countValid).renewSilence p).applyLoop p

/-- A whole frame, its check received, leaves the port (R77). -/
def State.endFrame (s : State) (p : PortId) (f : Frame) : State :=
  let s1 := (s.modifyPort p (fun x => { x with frame := none })).finishSending p f f.sentWhole
  if f.endsGood then (if f.isRing then s1.commit p f else s1) else s1.modifyPort p Port.countBad

/-- FRAME_END (R43, R57, R77); `o` holds the octets that remain, the frame check last. -/
def State.frameEnd (s : State) (p : PortId) (o : List Byte) : State :=
  match (s.port p).frame with
  | none => s.modifyPort p (fun x => { x with awaitingEnd := false })
  | some f =>
    let g := f.flush.pass o
    if 1537 ≤ g.received.length then (s.cut p g).modifyPort p (fun x => { x with awaitingEnd := false })
    else s.endFrame p g

/-! ## Link down (R50) -/

/-- A frame in flight is discarded with its link (R50). -/
def State.loseFrame (s : State) (p : PortId) : State :=
  match (s.port p).frame with
  | none => s
  | some f =>
    (s.modifyPort p (fun x => { x.countBad with frame := none })).finishSending p f (badlyEnded f.flush.sent)

/-- A link-down report after the first, when the link was UP (R50). -/
def State.takeLinkDown (s : State) (p : PortId) : State :=
  let s1 := (s.loseFrame p).modifyPort p Port.goDown
  (s1.raise
    { kind := .portLinkDown, target := .port p, capture := s.capture,
      body := .portLinkDown p (s1.port p).badFrames }).applyLoop p

/-- A link-down report (R50, R60). -/
def State.linkDown (s : State) (p : PortId) : State :=
  if (s.port p).reported = false then s.firstReport p false
  else if (s.port p).up then s.takeLinkDown p
  else s

end Sys2Proof.Machine
end

