-- ==== Sys2Proof/Machine/PortCommands.lean ====
section
/-! DEFINITION. The meanings of the rows of the ring ports and the frame engine (spec/03, spec/05). -/

namespace Sys2Proof.Machine

open Sys2Proof

/-- FIRST_LINK_REPORT (R60). -/
def execFirstLinkReport (dt : Nat) (p : PortId) (up : Bool) (s : State) : Host.Outcome State Fault Refusal :=
  s.timed dt (fun s => s.firstReport p up)

/-- LINK_DOWN (R50). -/
def execLinkDown (dt : Nat) (p : PortId) (s : State) : Host.Outcome State Fault Refusal :=
  s.timed dt (fun s => s.linkDown p)

/-- LINK_UP (R50). -/
def execLinkUp (dt : Nat) (p : PortId) (s : State) : Host.Outcome State Fault Refusal :=
  s.timed dt (fun s => s.linkUp p)

/-- LOOP_STATE_CHANGE (R53). -/
def execLoopStateChange (dt : Nat) (p : PortId) (s : State) : Host.Outcome State Fault Refusal :=
  s.timed dt (fun s => s.applyLoop p)

/-- FRAME_START (R43, R54, R55). -/
def execFrameStart (dt : Nat) (p : PortId) (head : List Byte) (s : State) : Host.Outcome State Fault Refusal :=
  s.timed dt (fun s => s.frameStart p head)

/-- TELEGRAM_PARSE (R44, R45). -/
def execTelegramParse (dt : Nat) (p : PortId) (octets : List Byte) (s : State) : Host.Outcome State Fault Refusal :=
  s.timed dt (fun s => s.telegramParse p octets)

/-- TELEGRAM_CHECK (R47). -/
def execTelegramCheck (dt : Nat) (p : PortId) (check : Word16) (s : State) : Host.Outcome State Fault Refusal :=
  s.timed dt (fun s => s.telegramCheck p check)

/-- FRAME_CUT (R57). -/
def execFrameCut (dt : Nat) (p : PortId) (octets : List Byte) (s : State) : Host.Outcome State Fault Refusal :=
  s.timed dt (fun s => s.frameCut p octets)

/-- FRAME_END (R77, R78). -/
def execFrameEnd (dt : Nat) (p : PortId) (octets : List Byte) (s : State) : Host.Outcome State Fault Refusal :=
  s.timed dt (fun s => s.frameEnd p octets)

/-- PORT_SILENCE_DEADLINE (R56). -/
def execPortSilenceDeadline (dt : Nat) (p : PortId) (s : State) : Host.Outcome State Fault Refusal :=
  s.timed dt (fun s => s.portSilence p)

/-- LAST_OCTET_LEFT (R54). -/
def execLastOctetLeft (dt : Nat) (p : PortId) (s : State) : Host.Outcome State Fault Refusal :=
  s.timed dt (fun s => s.lastOctetLeft p)

end Sys2Proof.Machine
end

