-- ==== Sys2Proof/Machine/Power.lean ====
section
/-! DEFINITION. The meanings of POWER_ON and RESET_ASSERT (R187, R188). -/

namespace Sys2Proof.Machine

open Sys2Proof

/-- The part while the reset pin is asserted: no state is kept, outputs and drives are off (R187). -/
def State.blank : State :=
  { State.powerOn 0 with inReset := true, record := { entries := [], next := 1, last := none, tally := none } }

/-- POWER_ON: every block takes its power-on values and the straps are read (R187, R188). -/
def execPowerOn (straps : Byte) (s : State) : Host.Outcome State Fault Refusal :=
  .next { State.powerOn straps with pending := s.pending }

/-- RESET_ASSERT (R187). -/
def execResetAssert (s : State) : Host.Outcome State Fault Refusal := .next { State.blank with pending := s.pending }

end Sys2Proof.Machine
end

