-- ==== Sys2Proof/Machine/ReferenceCommands.lean ====
section
/-! DEFINITION. The meanings of the rows of the reference selector (spec/02). -/

namespace Sys2Proof.Machine

open Sys2Proof

/-- REFERENCE_MESSAGE (R27, R28). -/
def execReferenceMessage (dt : Nat) (w : Wired) (octets : List Byte) (s : State) : Host.Outcome State Fault Refusal :=
  s.timed dt (fun s => s.referenceMessage w octets)

/-- MESSAGE_OCTET (R27). -/
def execMessageOctet (dt : Nat) (w : Wired) (octet : Byte) (s : State) : Host.Outcome State Fault Refusal :=
  s.timed dt (fun s => s.messageOctet w octet)

/-- MESSAGE_OCTET_TIMEOUT (R27). -/
def execMessageOctetTimeout (dt : Nat) (w : Wired) (s : State) : Host.Outcome State Fault Refusal :=
  s.timed dt (fun s => s.octetTimeout w)

/-- MESSAGE_FRAMING_ERROR (R27). -/
def execMessageFramingError (dt : Nat) (w : Wired) (s : State) : Host.Outcome State Fault Refusal :=
  s.timed dt (fun s => s.dropPartial w)

/-- MARK_LEADING_EDGE (R29). -/
def execMarkLeadingEdge (dt : Nat) (w : Wired) (s : State) : Host.Outcome State Fault Refusal :=
  s.timed dt (fun s => s.leadingEdge w)

/-- MARK_TRAILING_EDGE (R29, R30). -/
def execMarkTrailingEdge (dt : Nat) (w : Wired) (s : State) : Host.Outcome State Fault Refusal :=
  s.timed dt (fun s => s.trailingEdge w)

/-- MARK_WIDTH_LIMIT (R29). -/
def execMarkWidthLimit (dt : Nat) (w : Wired) (s : State) : Host.Outcome State Fault Refusal :=
  s.timed dt (fun s => s.widthLimit w)

/-- MARK_DEADLINE (R31). -/
def execMarkDeadline (dt : Nat) (src : Source) (s : State) : Host.Outcome State Fault Refusal :=
  s.timed dt (fun s => s.markDeadline src)

/-- ABSENCE_DEADLINE (R28). -/
def execAbsenceDeadline (dt : Nat) (src : Source) (s : State) : Host.Outcome State Fault Refusal :=
  s.timed dt (fun s => s.absenceDeadline src)

/-- REVERT_INSTANT (R36). -/
def execRevertInstant (dt : Nat) (src : Source) (s : State) : Host.Outcome State Fault Refusal :=
  s.timed dt (fun s => s.revertInstant src)

end Sys2Proof.Machine
end

