-- ==== Sys2Proof/Machine/ServiceCommands.lean ====
section
/-! DEFINITION. The meanings of the service requests (spec/11). -/

namespace Sys2Proof.Machine

open Sys2Proof

/-- READ_STATUS (R186): its telegram passes, judged and answered; its effect comes at the frame's commit (R178, R179). -/
def execReadStatus (t : Telegram) (s : State) : Host.Outcome State Fault Refusal :=
  s.timed t.dt (fun s => s.passRequest t .readStatus)

/-- SET_TIME_CONFIGURATION (R24, R39): its telegram passes, judged and answered; its effect comes at the frame's commit (R178, R179). -/
def execSetTimeConfiguration (t : Telegram) (p : TimeConfigParams) (s : State) : Host.Outcome State Fault Refusal :=
  s.timed t.dt (fun s => s.passRequest t (.setTimeConfiguration p))

/-- SET_LOCAL_OFFSET (R21): its telegram passes, judged and answered; its effect comes at the frame's commit (R178, R179). -/
def execSetLocalOffset (t : Telegram) (offset : Option Int) (at_ : Option Instant) (s : State) : Host.Outcome State Fault Refusal :=
  s.timed t.dt (fun s => s.passRequest t (.setLocalOffset offset at_))

/-- SET_RING_PORT (R59): its telegram passes, judged and answered; its effect comes at the frame's commit (R178, R179). -/
def execSetRingPort (t : Telegram) (port mode limit : Nat) (s : State) : Host.Outcome State Fault Refusal :=
  s.timed t.dt (fun s => s.passRequest t (.setRingPort port mode limit))

/-- LOAD_ELEMENT (R65): its telegram passes, judged and answered; its effect comes at the frame's commit (R178, R179). -/
def execLoadElement (t : Telegram) (p : LoadElementParams) (s : State) : Host.Outcome State Fault Refusal :=
  s.timed t.dt (fun s => s.passRequest t (.loadElement p))

/-- UNLOAD_ELEMENT (R67): its telegram passes, judged and answered; its effect comes at the frame's commit (R178, R179). -/
def execUnloadElement (t : Telegram) (address : Nat) (s : State) : Host.Outcome State Fault Refusal :=
  s.timed t.dt (fun s => s.passRequest t (.unloadElement address))

/-- SET_ELEMENT_MODE (R69): its telegram passes, judged and answered; its effect comes at the frame's commit (R178, R179). -/
def execSetElementMode (t : Telegram) (address mode : Nat) (s : State) : Host.Outcome State Fault Refusal :=
  s.timed t.dt (fun s => s.passRequest t (.setElementMode address mode))

/-- READ_ELEMENT (R73): its telegram passes, judged and answered; its effect comes at the frame's commit (R178, R179). -/
def execReadElement (t : Telegram) (address search : Nat) (s : State) : Host.Outcome State Fault Refusal :=
  s.timed t.dt (fun s => s.passRequest t (.readElement address search))

/-- SET_TIMETABLE_SETTINGS (R127): its telegram passes, judged and answered; its effect comes at the frame's commit (R178, R179). -/
def execSetTimetableSettings (t : Telegram) (lead grace : Nat) (s : State) : Host.Outcome State Fault Refusal :=
  s.timed t.dt (fun s => s.passRequest t (.setTimetableSettings lead grace))

/-- SET_CHANGEOVER (R129): its telegram passes, judged and answered; its effect comes at the frame's commit (R178, R179). -/
def execSetChangeover (t : Telegram) (at_ : Option Instant) (drain : Option Nat) (s : State) : Host.Outcome State Fault Refusal :=
  s.timed t.dt (fun s => s.passRequest t (.setChangeover at_ drain))

/-- LOAD_ENTRY (R132): its telegram passes, judged and answered; its effect comes at the frame's commit (R178, R179). -/
def execLoadEntry (t : Telegram) (p : LoadEntryParams) (s : State) : Host.Outcome State Fault Refusal :=
  s.timed t.dt (fun s => s.passRequest t (.loadEntry p))

/-- WITHDRAW_ENTRY (R134): its telegram passes, judged and answered; its effect comes at the frame's commit (R178, R179). -/
def execWithdrawEntry (t : Telegram) (id : Nat) (s : State) : Host.Outcome State Fault Refusal :=
  s.timed t.dt (fun s => s.passRequest t (.withdrawEntry id))

/-- ERASE_PERIOD (R135): its telegram passes, judged and answered; its effect comes at the frame's commit (R178, R179). -/
def execErasePeriod (t : Telegram) (period : Nat) (s : State) : Host.Outcome State Fault Refusal :=
  s.timed t.dt (fun s => s.passRequest t (.erasePeriod period))

/-- READ_ENTRY (R136): its telegram passes, judged and answered; its effect comes at the frame's commit (R178, R179). -/
def execReadEntry (t : Telegram) (id search : Nat) (s : State) : Host.Outcome State Fault Refusal :=
  s.timed t.dt (fun s => s.passRequest t (.readEntry id search))

/-- READ_RECORD (R155): its telegram passes, judged and answered; its effect comes at the frame's commit (R178, R179). -/
def execReadRecord (t : Telegram) (first : Word32) (s : State) : Host.Outcome State Fault Refusal :=
  s.timed t.dt (fun s => s.passRequest t (.readRecord first))

/-- ACKNOWLEDGE_RECORD (R156): its telegram passes, judged and answered; its effect comes at the frame's commit (R178, R179). -/
def execAcknowledgeRecord (t : Telegram) (through : Word32) (s : State) : Host.Outcome State Fault Refusal :=
  s.timed t.dt (fun s => s.passRequest t (.acknowledgeRecord through))

/-- SET_ACTIONS (R158): its telegram passes, judged and answered; its effect comes at the frame's commit (R178, R179). -/
def execSetActions (t : Telegram) (count : Nat) (pairs : List (Nat × Nat)) (s : State) : Host.Outcome State Fault Refusal :=
  s.timed t.dt (fun s => s.passRequest t (.setActions count pairs))

/-- ACKNOWLEDGE_ALARM (R160): its telegram passes, judged and answered; its effect comes at the frame's commit (R178, R179). -/
def execAcknowledgeAlarm (t : Telegram) (target address : Nat) (s : State) : Host.Outcome State Fault Refusal :=
  s.timed t.dt (fun s => s.passRequest t (.acknowledgeAlarm target address))

/-- SET_CLOCK_LINE (R165): its telegram passes, judged and answered; its effect comes at the frame's commit (R178, R179). -/
def execSetClockLine (t : Telegram) (p : ClockLineParams) (s : State) : Host.Outcome State Fault Refusal :=
  s.timed t.dt (fun s => s.passRequest t (.setClockLine p))

/-- REQUEST_STATE (R181): its telegram passes, judged and answered; its effect comes at the frame's commit (R178, R179). -/
def execRequestState (t : Telegram) (state : Nat) (s : State) : Host.Outcome State Fault Refusal :=
  s.timed t.dt (fun s => s.passRequest t (.requestState state))

/-- SET_RUN_CONDITION (R181): its telegram passes, judged and answered; its effect comes at the frame's commit (R178, R179). -/
def execSetRunCondition (t : Telegram) (value : Nat) (s : State) : Host.Outcome State Fault Refusal :=
  s.timed t.dt (fun s => s.passRequest t (.setRunCondition value))

/-- ACKNOWLEDGE_ERROR_INDICATION (R180): its telegram passes, judged and answered; its effect comes at the frame's commit (R178, R179). -/
def execAcknowledgeErrorIndication (t : Telegram) (s : State) : Host.Outcome State Fault Refusal :=
  s.timed t.dt (fun s => s.passRequest t .acknowledgeErrorIndication)

/-- RESTART (R183, R184): its telegram passes, judged and answered; its effect comes at the frame's commit (R178, R179). -/
def execRestart (t : Telegram) (s : State) : Host.Outcome State Fault Refusal :=
  s.timed t.dt (fun s => s.passRequest t .restart)

end Sys2Proof.Machine
end

