-- ==== Sys2Proof/Machine/TimeCommands.lean ====
section
/-! DEFINITION. The meanings of the rows of the time base (spec/01). -/

namespace Sys2Proof.Machine

open Sys2Proof

/-- HOLDOVER_SECOND (R17). -/
def execHoldoverSecond (dt : Nat) (s : State) : Host.Outcome State Fault Refusal :=
  s.timed dt (fun s => s.holdoverSecond)

/-- SCALE_END_HOLD (R2). -/
def execScaleEndHold (dt : Nat) (s : State) : Host.Outcome State Fault Refusal :=
  s.timed dt (fun s => s.scaleEndHold)

/-- SECOND_MARK_START (R23). -/
def execSecondMarkStart (dt : Nat) (s : State) : Host.Outcome State Fault Refusal :=
  s.timed dt (fun s => s.secondMarkStart)

/-- SECOND_MARK_END (R23). -/
def execSecondMarkEnd (dt : Nat) (s : State) : Host.Outcome State Fault Refusal :=
  s.timed dt (fun s => s.secondMarkFall)

/-- OFFSET_CHANGE_INSTANT (R22). -/
def execOffsetChangeInstant (dt : Nat) (s : State) : Host.Outcome State Fault Refusal :=
  s.timed dt (fun s => s.takeOffset)

end Sys2Proof.Machine
end

