-- ==== Sys2Proof/Machine/TimetableCommands.lean ====
section
/-! DEFINITION. The meanings of the instants of the timetable checker (spec/08). -/

namespace Sys2Proof.Machine

open Sys2Proof

/-- CHANGEOVER (R130). -/
def execChangeover (dt : Nat) (s : State) : Host.Outcome State Fault Refusal :=
  s.timed dt (fun s => s.takeChangeover)

/-- DRAIN_END (R131). -/
def execDrainEnd (dt : Nat) (s : State) : Host.Outcome State Fault Refusal :=
  s.timed dt (fun s => s.takeDrainEnd)

/-- TIMETABLE_EXPIRY (R142, R143). -/
def execTimetableExpiry (dt : Nat) (s : State) : Host.Outcome State Fault Refusal :=
  s.timed dt (fun s => s.expireDue)

end Sys2Proof.Machine
end

