-- ==== Sys2Proof/Machine/Dispatch.lean ====
section
/-! DEFINITION. The commands' meanings, one arm for each constructor of `Instr`. -/

namespace Sys2Proof.Machine

open Sys2Proof

/-- The effect of a command on everything but the queue. -/
def exec (i : Instr) (s : State) : Host.Outcome State Fault Refusal :=
  match i with
  | .powerOn straps => Sys2Proof.Machine.execPowerOn straps s
  | .resetAssert => Sys2Proof.Machine.execResetAssert s
  | .firstLinkReport dt p up => Sys2Proof.Machine.execFirstLinkReport dt p up s
  | .linkDown dt p => Sys2Proof.Machine.execLinkDown dt p s
  | .linkUp dt p => Sys2Proof.Machine.execLinkUp dt p s
  | .loopStateChange dt p => Sys2Proof.Machine.execLoopStateChange dt p s
  | .frameStart dt p head => Sys2Proof.Machine.execFrameStart dt p head s
  | .telegramParse dt p octets => Sys2Proof.Machine.execTelegramParse dt p octets s
  | .telegramCheck dt p check => Sys2Proof.Machine.execTelegramCheck dt p check s
  | .frameCut dt p octets => Sys2Proof.Machine.execFrameCut dt p octets s
  | .frameEnd dt p octets => Sys2Proof.Machine.execFrameEnd dt p octets s
  | .portSilenceDeadline dt p => Sys2Proof.Machine.execPortSilenceDeadline dt p s
  | .referenceMessage dt w octets => Sys2Proof.Machine.execReferenceMessage dt w octets s
  | .messageOctetTimeout dt w => Sys2Proof.Machine.execMessageOctetTimeout dt w s
  | .messageFramingError dt w => Sys2Proof.Machine.execMessageFramingError dt w s
  | .markLeadingEdge dt w => Sys2Proof.Machine.execMarkLeadingEdge dt w s
  | .markTrailingEdge dt w => Sys2Proof.Machine.execMarkTrailingEdge dt w s
  | .markWidthLimit dt w => Sys2Proof.Machine.execMarkWidthLimit dt w s
  | .markDeadline dt src => Sys2Proof.Machine.execMarkDeadline dt src s
  | .absenceDeadline dt src => Sys2Proof.Machine.execAbsenceDeadline dt src s
  | .revertInstant dt src => Sys2Proof.Machine.execRevertInstant dt src s
  | .holdoverSecond dt => Sys2Proof.Machine.execHoldoverSecond dt s
  | .scaleEndHold dt => Sys2Proof.Machine.execScaleEndHold dt s
  | .secondMarkStart dt => Sys2Proof.Machine.execSecondMarkStart dt s
  | .secondMarkEnd dt => Sys2Proof.Machine.execSecondMarkEnd dt s
  | .offsetChangeInstant dt => Sys2Proof.Machine.execOffsetChangeInstant dt s
  | .elementSilenceDeadline dt address => Sys2Proof.Machine.execElementSilenceDeadline dt address s
  | .startDeadline dt address => Sys2Proof.Machine.execStartDeadline dt address s
  | .runDeadline dt address => Sys2Proof.Machine.execRunDeadline dt address s
  | .settleDeadline dt address => Sys2Proof.Machine.execSettleDeadline dt address s
  | .confirmDeadline dt address => Sys2Proof.Machine.execConfirmDeadline dt address s
  | .changeover dt => Sys2Proof.Machine.execChangeover dt s
  | .drainEnd dt => Sys2Proof.Machine.execDrainEnd dt s
  | .timetableExpiry dt => Sys2Proof.Machine.execTimetableExpiry dt s
  | .pulseStart dt l => Sys2Proof.Machine.execPulseStart dt l s
  | .currentPresent dt l active => Sys2Proof.Machine.execCurrentPresent dt l active s
  | .pulseEnd dt l => Sys2Proof.Machine.execPulseEnd dt l s
  | .overcurrent dt l active => Sys2Proof.Machine.execOvercurrent dt l active s
  | .retryDeadline dt l => Sys2Proof.Machine.execRetryDeadline dt l s
  | .readStatus t => Sys2Proof.Machine.execReadStatus t s
  | .setTimeConfiguration t p => Sys2Proof.Machine.execSetTimeConfiguration t p s
  | .setLocalOffset t offset at_ => Sys2Proof.Machine.execSetLocalOffset t offset at_ s
  | .setRingPort t port mode limit => Sys2Proof.Machine.execSetRingPort t port mode limit s
  | .loadElement t p => Sys2Proof.Machine.execLoadElement t p s
  | .unloadElement t address => Sys2Proof.Machine.execUnloadElement t address s
  | .setElementMode t address mode => Sys2Proof.Machine.execSetElementMode t address mode s
  | .readElement t address search => Sys2Proof.Machine.execReadElement t address search s
  | .setTimetableSettings t lead grace => Sys2Proof.Machine.execSetTimetableSettings t lead grace s
  | .setChangeover t at_ drain => Sys2Proof.Machine.execSetChangeover t at_ drain s
  | .loadEntry t p => Sys2Proof.Machine.execLoadEntry t p s
  | .withdrawEntry t id => Sys2Proof.Machine.execWithdrawEntry t id s
  | .erasePeriod t period => Sys2Proof.Machine.execErasePeriod t period s
  | .readEntry t id search => Sys2Proof.Machine.execReadEntry t id search s
  | .readRecord t first => Sys2Proof.Machine.execReadRecord t first s
  | .acknowledgeRecord t through => Sys2Proof.Machine.execAcknowledgeRecord t through s
  | .setActions t count pairs => Sys2Proof.Machine.execSetActions t count pairs s
  | .acknowledgeAlarm t target address => Sys2Proof.Machine.execAcknowledgeAlarm t target address s
  | .setClockLine t p => Sys2Proof.Machine.execSetClockLine t p s
  | .requestState t state => Sys2Proof.Machine.execRequestState t state s
  | .setRunCondition t value => Sys2Proof.Machine.execSetRunCondition t value s
  | .acknowledgeErrorIndication t => Sys2Proof.Machine.execAcknowledgeErrorIndication t s
  | .restart t => Sys2Proof.Machine.execRestart t s
  | .messageOctet dt w octet => Sys2Proof.Machine.execMessageOctet dt w octet s
  | .lastOctetLeft dt p => Sys2Proof.Machine.execLastOctetLeft dt p s

end Sys2Proof.Machine
end

