-- ==== Sys2Proof/Machine/Due.lean ====
section
/-! DEFINITION. The timer rows that are due: the events of the part's own deadlines and instants whose time has come, and
what an empty queue does (log 3). -/

namespace Sys2Proof.Machine

open Sys2Proof

/-- One command when a condition holds. -/
def onlyIf (b : Bool) (c : Instr) : List Instr := if b then [c] else []

/-- The due rows of a ring port (R53, R56). -/
def State.duePort (s : State) (p : PortId) : List Instr :=
  let x := s.port p
  onlyIf (decide (x.demand ≠ x.loop) && decide (x.transmitter = .idle)) (.loopStateChange 0 p)
    ++ onlyIf (s.reached x.silenceDeadline) (.portSilenceDeadline 0 p)

/-- The width limit of a mark is passed (R29). -/
def State.widthPassed (s : State) (w : Wired) : Bool :=
  match (s.wired w).mark with
  | some m => decide (m.capture.elapsed + 500000 < s.time.elapsed)
  | none => false

/-- The due rows of a wired reference's lines (R27, R29). -/
def State.dueWired (s : State) (w : Wired) : List Instr :=
  onlyIf (!(s.wired w).collected.isEmpty && s.octetLate w) (.messageOctetTimeout 0 w)
    ++ onlyIf (s.widthPassed w) (.markWidthLimit 0 w)

/-- The due rows of a source (R28, R31, R36). -/
def State.dueSource (s : State) (x : Source) : List Instr :=
  onlyIf (s.reached (s.source x).markDeadline) (.markDeadline 0 x)
    ++ onlyIf (s.reached (s.source x).absenceDeadline) (.absenceDeadline 0 x)
    ++ onlyIf (s.mayRevert x) (.revertInstant 0 x)

/-- The due rows of the time base (R2, R17, R22, R23). -/
def State.dueTime (s : State) : List Instr :=
  onlyIf (decide (s.time.mode = .holdover) && s.reached s.time.nextHoldover) (.holdoverSecond 0)
    ++ onlyIf (decide (s.time.centre = Config.lastScale) && !s.time.held) (.scaleEndHold 0)
    ++ onlyIf s.time.boundary (.secondMarkStart 0)
    ++ onlyIf (s.reached s.time.secondMarkEnd) (.secondMarkEnd 0)
    ++ onlyIf s.offsetReached (.offsetChangeInstant 0)

/-- The due rows of a movement (R94, R99, R101, R103). -/
def State.dueMovement (s : State) (a : Nat) (m : Movement) : List Instr :=
  onlyIf (decide (m.phase = .commanded) && decide (m.startDeadline ≤ s.time.elapsed)) (.startDeadline 0 a)
    ++ onlyIf (!(decide (m.phase = .settling) && m.runPassed) && decide (m.runDeadline ≤ s.time.elapsed))
      (.runDeadline 0 a)
    ++ onlyIf (decide (m.phase = .settling) && s.reached m.settleDeadline) (.settleDeadline 0 a)

/-- The due rows of an element (R88, R99, R101, R103, R119). -/
def State.dueElement (s : State) (r : ElementRecord) : List Instr :=
  onlyIf (decide (r.coverage = .observed) && s.reached r.silenceDeadline) (.elementSilenceDeadline 0 r.address)
    ++ (r.movement.map (s.dueMovement r.address)).getD []
    ++ match r.confirmation with
      | some k => onlyIf (!k.overdue && decide (k.deadline ≤ s.time.elapsed)) (.confirmDeadline 0 r.address)
      | none => []

/-- The due rows of the timetable checker (R130, R131, R142). -/
def State.dueChecker (s : State) : List Instr :=
  onlyIf (s.changeoverReached && (s.tagIn .live).isSome) (.changeover 0)
    ++ onlyIf (s.drainReached && (s.tagIn .draining).isSome) (.drainEnd 0)
    ++ onlyIf (s.expiryAllowed && s.dueQueue.any s.isDue) (.timetableExpiry 0)

/-- The end deadline of a pulse in flight is reached (R169). -/
def State.pulseOver (s : State) (l : LineId) : Bool := s.reached ((s.line l).pulse.map (·.deadline))

/-- The due rows of a clock line (R168, R169, R171). -/
def State.dueLine (s : State) (l : LineId) : List Instr :=
  onlyIf (s.mayStart l && (s.line l).polarity.isSome) (.pulseStart 0 l)
    ++ onlyIf (s.pulseOver l) (.pulseEnd 0 l)
    ++ onlyIf (s.reached (s.line l).retryDeadline) (.retryDeadline 0 l)

/-- Every timer row that is due. -/
def State.dueCommands (s : State) : List Instr :=
  s.duePort .a ++ s.duePort .b ++ s.dueWired .ref1 ++ s.dueWired .ref2 ++ allSources.flatMap s.dueSource ++ s.dueTime
    ++ s.elements.flatMap s.dueElement ++ s.dueChecker ++ s.dueLine .one ++ s.dueLine .two

/-- The due rows join the queue in a free order (log 3). -/
def State.raiseDue (s : State) : State :=
  let due := s.dueCommands
  { s with pending := freePermutation due.length s.choices due, choices := s.choices + due.length }

/-- What the part does on an empty queue: nothing in reset; else it raises what is due, or one oscillator period passes
(log 3). -/
def State.idle (s : State) : State :=
  if s.inReset then s else if s.dueCommands.isEmpty then s.advance 1 else s.raiseDue

end Sys2Proof.Machine
end

