-- ==== Sys2Proof/Safety.lean ====
section
/-! DEFINITION. What it means for the part to be in order: the relations between fields of `State` that the spec states
at every instant, each one a property of its own. -/

namespace Sys2Proof.Machine

open Sys2Proof

/-- One tag is LIVE and the other is not; a drain end is held exactly while a tag is DRAINING (R128). -/
def State.OneLive (s : State) : Prop :=
  ((s.checker.tagA = .live ∧ s.checker.tagB ≠ .live) ∨ (s.checker.tagB = .live ∧ s.checker.tagA ≠ .live))
    ∧ (s.checker.drainEnd.isSome = true ↔ s.checker.tagA = .draining ∨ s.checker.tagB = .draining)

/-- The sequence numbers of entries follow one another without a break up to the next sequence (R152). -/
def numbered : List Entry → Word32 → Prop
  | [], _ => True
  | [e], n => e.sequence + 1 = n
  | e :: f :: es, n => e.sequence + 1 = f.sequence ∧ numbered (f :: es) n

/-- The record's bounds and numbering (R149, R152). -/
def State.RecordOk (s : State) : Prop :=
  s.record.entries.length ≤ Config.maxRecord
    ∧ (s.record.entries.filter (fun e => !e.alarm)).length ≤ Config.alarmReserve
    ∧ numbered s.record.entries s.record.next

/-- The alarm output is asserted exactly while some target holds a latched fault (R161), and the action table has one
action for each of its kinds (R157). -/
def State.AlarmOk (s : State) : Prop := s.alarms.output = s.anyLatch ∧ s.alarms.actions.length = 27

/-- The quality limits are each one of their listed values (R24). -/
def TimeConfig.Listed (c : TimeConfig) : Prop :=
  (c.l1 = 100 ∨ c.l1 = 250 ∨ c.l1 = 500 ∨ c.l1 = 1000) ∧ (c.l2 = 2 ∨ c.l2 = 5 ∨ c.l2 = 10 ∨ c.l2 = 20)
    ∧ (c.l3 = 50 ∨ c.l3 = 100 ∨ c.l3 = 200 ∨ c.l3 = 500)

/-- The discipline state's ranges, FREE exactly while time is unset, and listed limits (R1, R2, R6, R7, R18, R24). -/
def State.TimeOk (s : State) : Prop :=
  s.time.centre ≤ Config.lastScale ∧ (s.time.held = true → s.time.centre = Config.lastScale) ∧ s.time.epoch ≤ 65535
    ∧ (s.time.timeSet = false ↔ s.time.mode = .free) ∧ -500000 ≤ s.time.c ∧ s.time.c ≤ 500000
    ∧ -50000 ≤ s.time.i ∧ s.time.i ≤ 50000 ∧ (s.time.mode = .fine → -50000 ≤ s.time.c ∧ s.time.c ≤ 50000)
    ∧ s.time.u ≤ Config.maxU ∧ s.time.stepCount ≤ 3 ∧ (s.time.nextHoldover.isSome = true ↔ s.time.mode = .holdover)
    ∧ s.time.config.Listed

/-- A list of numbers rises strictly. -/
def ascending : List Nat → Prop
  | [] => True
  | [_] => True
  | a :: b :: l => a < b ∧ ascending (b :: l)

/-- The element table and the timetable store: one record per key, in ascending order, within their capacities (R61,
R125). -/
def State.TablesOk (s : State) : Prop :=
  ascending (s.elements.map (·.address)) ∧ (∀ r ∈ s.elements, 1 ≤ r.address ∧ r.address ≤ 0xEFFF)
    ∧ s.elements.length ≤ Config.maxElements ∧ ascending (s.checker.store.map (·.id))
    ∧ s.checker.store.length ≤ Config.maxEntries

/-- In CONFIG no element has a movement in progress, a confirmation pending, a cleared-for or a silence deadline (R72). -/
def State.QuietInConfig (s : State) : Prop :=
  s.service.state = .config →
    ∀ r ∈ s.elements, r.movement = none ∧ r.confirmation = none ∧ r.silenceDeadline = none
      ∧ ∀ g, r.part = .signal g → g.clearedFor = none

/-- The timetable entries that name an element (R64). -/
def State.naming (s : State) (a : Nat) : List TimetableEntry := s.checker.store.filter (fun e => decide (e.element = a))

/-- Reference counts are true, and every timetable entry names a held timetable-point signal (R64, R125). -/
def State.ReferencesOk (s : State) : Prop :=
  (∀ r ∈ s.elements, r.references = (s.naming r.address).length)
    ∧ ∀ e ∈ s.checker.store, s.isTimetablePoint e.element = true

/-- A clock line's state agrees with its pulse, its deadline, its drive and what it knows (R164, R165, R168). -/
def Line.Ok (x : Line) : Prop :=
  (x.step = 30 ∨ x.step = 60) ∧ (x.pulse.isSome = true → x.state = .running)
    ∧ (x.retryDeadline.isSome = true ↔ x.state = .retry) ∧ x.drive = x.pulse.isSome
    ∧ ((x.state = .running ∨ x.state = .retry) → x.enable = true)
    ∧ (x.enable = true → x.shown.isSome = true ∧ x.polarity.isSome = true)
    ∧ (∀ n, x.shown = some n → n < positions x.step) ∧ x.width + 200 ≤ x.fast ∧ x.shortCount ≤ 3
    ∧ (x.state ≠ .latchedOff → x.shortCount ≤ 2)

/-- Both clock lines are in order (R164). -/
def State.LinesOk (s : State) : Prop := s.line1.Ok ∧ s.line2.Ok

/-- A port's deadline, frame, counts and what it sends agree with its link (R49, R50, R54, R56, R60, R76). -/
def Port.Ok (x : Port) : Prop :=
  (x.silenceDeadline.isSome = true ↔ x.up = true ∧ x.activity = .active) ∧ x.reopenCount ≤ 2 ∧ x.badFrames ≤ 65535
    ∧ (x.frame.isSome = true → x.up = true ∧ x.awaitingEnd = false)
    ∧ (x.transmitter = .idle → x.sendLost = false) ∧ (x.up = false → x.transmitter ≠ .idle → x.sendLost = true)
    ∧ (x.reported = false → x.up = false ∧ x.activity = .active)
    ∧ ∀ f, x.frame = some f → f.items.length + f.telegram.toList.length ≤ f.parsed ∧ f.parsed ≤ 64

/-- A transmitter that a frame in flight has claimed is sending that frame, its end not yet come (R54). -/
def State.ClaimsOk (s : State) : Prop :=
  ∀ p q f, (s.port p).frame = some f → f.through = some q → (s.port q).transmitter = .sending p none

/-- Both ports are in order, and so are the claims of their frames (R49, R54). -/
def State.PortsOk (s : State) : Prop := s.portA.Ok ∧ s.portB.Ok ∧ s.ClaimsOk

/-! ## What a command leaves -/

/-- The blocks of `State` that a statement about a command's frame names. -/
inductive Block where
  | inReset | time | refs | portA | portB | elements | checker | record | alarms | line1 | line2 | service | choices
  | pending
  deriving DecidableEq, Repr

/-- Two states agree on a block. -/
def Block.same (s t : State) : Block → Prop
  | .inReset => t.inReset = s.inReset
  | .time => t.time = s.time
  | .refs => t.refs = s.refs
  | .portA => t.portA = s.portA
  | .portB => t.portB = s.portB
  | .elements => t.elements = s.elements
  | .checker => t.checker = s.checker
  | .record => t.record = s.record
  | .alarms => t.alarms = s.alarms
  | .line1 => t.line1 = s.line1
  | .line2 => t.line2 = s.line2
  | .service => t.service = s.service
  | .choices => t.choices = s.choices
  | .pending => t.pending = s.pending

/-- Every block outside a list is the same in both states. -/
def sameBut (s t : State) (l : List Block) : Prop := ∀ b : Block, b ∉ l → b.same s t

/-- The block of a ring port. -/
def portBlock : PortId → Block
  | .a => .portA
  | .b => .portB

/-- The block of a clock line. -/
def lineBlock : LineId → Block
  | .one => .line1
  | .two => .line2

/-- A record without its latched fault. -/
def ElementRecord.unlatched (r : ElementRecord) : ElementRecord := { r with latched := none }

/-- The element table is the same but for latched faults. -/
def sameElements (s t : State) : Prop := t.elements.map ElementRecord.unlatched = s.elements.map ElementRecord.unlatched

/-- The records at other addresses are the same. -/
def othersSame (s t : State) (a : Nat) : Prop := ∀ b, b ≠ a → t.element b = s.element b

/-- The record keeps the entries it held, in order, and gains none but at its newest end. -/
def recordGrows (s t : State) : Prop := ∃ l, t.record.entries = s.record.entries ++ l

/-- The entry of a body and a capture was handed to the record, of a class and outside the action table. -/
def noted (s t : State) (b : EntryBody) (alarm : Bool) : Prop := t.record = (s.note s.capture b alarm).record

/-- No QUALIFIED source of higher priority than a source is at its revert instant (R36). -/
def State.revertsNone (s : State) (y : Source) : Prop :=
  ∀ x k, (s.source x).state = .qualified → (s.time.config.source x).priority < (s.time.config.source y).priority →
    (s.source x).qualifiedSince = some k → s.time.elapsed < k + s.time.config.revertHold * 1000000

/-- No other source is QUALIFIED. -/
def State.othersUnqualified (s : State) (y : Source) : Prop := ∀ x, x ≠ y → (s.source x).state ≠ .qualified

/-- A source is the highest-priority QUALIFIED one but for another (R34). -/
def State.nextBest (s : State) (y x : Source) : Prop :=
  x ≠ y ∧ (s.source x).state = .qualified
    ∧ ∀ z, z ≠ y → z ≠ x → (s.source z).state = .qualified →
        (s.time.config.source x).priority < (s.time.config.source z).priority

/-- A source ceases to be QUALIFIED, by marks or by absence, while it is the selected one: the selection is none in the state
after, with HOLDOVER and its entry where time was set and a SOURCE CHANGE entry to none where it was not, or it is the best of
the other QUALIFIED sources with its SOURCE CHANGE entry of reason LOST (R17, R34, R38). -/
def State.lostTo (s : State) (x : Source) (t : State) : Prop :=
  (s.othersUnqualified x → t.refs.selected = none
    ∧ (s.time.timeSet = true → t.time.mode = .holdover ∧ t.time.c = s.time.i
        ∧ recordGrows (s.raise
            { kind := .holdover, target := .time, capture := s.capture, body := .timeHoldover x s.time.u s.time.i }) t)
    ∧ (s.time.timeSet = false →
        recordGrows (s.raise
          { kind := .sourceChange, target := .time, capture := s.capture,
            body := .timeSourceChange (some x) none .lost }) t))
  ∧ ∀ y, s.nextBest x y → t.refs.selected = some y ∧ t.time.stepCount = 0
    ∧ recordGrows (s.raise
        { kind := .sourceChange, target := .time, capture := s.capture,
          body := .timeSourceChange (some x) (some y) .lost }) t

/-- The number of a named value in its list, from 1 (R189). -/
def placeIn {α : Type} [DecidableEq α] (l : List α) (x : α) : Nat := l.idxOf x + 1

/-- What a raise does to the record, the alarm unit and the latches. -/
def raised (s t : State) (r : Raise) : Prop :=
  t.record = (s.raise r).record ∧ t.alarms = (s.raise r).alarms

end Sys2Proof.Machine
end

