-- ==== Sys2Proof/WellFormed.lean ====
section
/-! DEFINITION. Well-formed commands: every operand fits the octets that carry it (R189, R191), and a field that may be
absent holds no value that its absent coding would spell. -/

namespace Sys2Proof

/-- A number fits `n` octets. -/
def fits (n v : Nat) : Bool := decide (v < 256 ^ n)

/-- A number that may be absent fits `n` octets beside the absent coding (R189). -/
def optionFits (n : Nat) (v : Option Nat) : Bool :=
  match v with
  | none => true
  | some x => decide (x < 256 ^ n - 1)

/-- An instant fits its five octets. -/
def Instant.fits (i : Instant) : Bool := Sys2Proof.fits 2 i.day && Sys2Proof.fits 3 i.second

/-- An instant that may be absent fits its octets beside the absent coding. -/
def instantFits (i : Option Instant) : Bool :=
  match i with
  | none => true
  | some x => x.fits && decide (x.day * 256 ^ 3 + x.second < 256 ^ 5 - 1)

/-- A signed number that may be absent fits two octets beside the absent coding. -/
def signedFits (v : Option Int) : Bool :=
  match v with
  | none => true
  | some x => decide (-32768 < x) && decide (x < 32768)

/-- One source's settings fit their octets. -/
def SourceParams.fits (p : SourceParams) : Bool :=
  Sys2Proof.fits 1 p.enable && Sys2Proof.fits 1 p.priority && Sys2Proof.fits 3 p.delay

/-- SET TIME CONFIGURATION's fields fit their octets. -/
def TimeConfigParams.fits (p : TimeConfigParams) : Bool :=
  Sys2Proof.fits 2 p.stepThreshold && Sys2Proof.fits 1 p.stepPermit && Sys2Proof.fits 1 p.stepInRun
    && Sys2Proof.fits 2 p.fineEntry && Sys2Proof.fits 3 p.fineExit && Sys2Proof.fits 1 p.kp && Sys2Proof.fits 1 p.ki
    && Sys2Proof.fits 3 p.slewRate && Sys2Proof.fits 3 p.holdDrift && Sys2Proof.fits 2 p.l1 && Sys2Proof.fits 1 p.l2
    && Sys2Proof.fits 2 p.l3 && p.ref1.fits && p.ref2.fits && p.ring.fits && Sys2Proof.fits 1 p.nQual
    && Sys2Proof.fits 1 p.nDisq && Sys2Proof.fits 2 p.revertHold && Sys2Proof.fits 1 p.masterEnable
    && Sys2Proof.fits 2 p.masterAddress

/-- LOAD ELEMENT's fields fit their octets. -/
def LoadElementParams.fits (p : LoadElementParams) : Bool :=
  Sys2Proof.fits 2 p.address && Sys2Proof.fits 1 p.kind && Sys2Proof.fits 1 p.mode && Sys2Proof.fits 1 p.timetablePoint
    && optionFits 2 p.silence && optionFits 2 p.start && optionFits 1 p.run && optionFits 2 p.settle
    && optionFits 1 p.bounces && optionFits 2 p.warning && optionFits 2 p.confirm

/-- LOAD ENTRY's fields fit their octets. -/
def LoadEntryParams.fits (p : LoadEntryParams) : Bool :=
  Sys2Proof.fits 2 p.id && Sys2Proof.fits 1 p.period && Sys2Proof.fits 2 p.element && Sys2Proof.fits 1 p.check
    && p.scheduled.fits && Sys2Proof.fits 2 p.early && Sys2Proof.fits 2 p.late && Sys2Proof.fits 2 p.severe

/-- SET CLOCK LINE's fields fit their octets. -/
def ClockLineParams.fits (p : ClockLineParams) : Bool :=
  Sys2Proof.fits 1 p.line && optionFits 1 p.enable && optionFits 1 p.step && optionFits 2 p.shown
    && optionFits 1 p.polarity && optionFits 2 p.width && optionFits 2 p.fast && optionFits 1 p.wait
    && optionFits 2 p.retry

/-- One pair of SET ACTIONS fits its octets. -/
def pairFits (p : Nat × Nat) : Bool := fits 1 p.1 && fits 1 p.2

/-- A request's fields fit the octets that carry them (R191). -/
def Request.wellFormed : Request → Bool
  | .readStatus => true
  | .setTimeConfiguration p => p.fits
  | .setLocalOffset o i => signedFits o && instantFits i
  | .setRingPort p m l => fits 1 p && fits 1 m && fits 2 l
  | .loadElement p => p.fits
  | .unloadElement a => fits 2 a
  | .setElementMode a m => fits 2 a && fits 1 m
  | .readElement a k => fits 2 a && fits 1 k
  | .setTimetableSettings l g => fits 2 l && fits 2 g
  | .setChangeover i d => instantFits i && optionFits 2 d
  | .loadEntry p => p.fits
  | .withdrawEntry i => fits 2 i
  | .erasePeriod p => fits 1 p
  | .readEntry i k => fits 2 i && fits 1 k
  | .readRecord _ => true
  | .acknowledgeRecord _ => true
  | .setActions n l => fits 1 n && decide (l.length = 8) && l.all pairFits
  | .acknowledgeAlarm t a => fits 1 t && fits 2 a
  | .setClockLine p => p.fits
  | .requestState v => fits 1 v
  | .setRunCondition v => fits 1 v
  | .acknowledgeErrorIndication => true
  | .restart => true

/-- The telegram and the request of a service row; none for the other rows. -/
def Instr.request : Instr → Option (Telegram × Request)
  | .readStatus t => some (t, .readStatus)
  | .setTimeConfiguration t p => some (t, .setTimeConfiguration p)
  | .setLocalOffset t o i => some (t, .setLocalOffset o i)
  | .setRingPort t p m l => some (t, .setRingPort p m l)
  | .loadElement t p => some (t, .loadElement p)
  | .unloadElement t a => some (t, .unloadElement a)
  | .setElementMode t a m => some (t, .setElementMode a m)
  | .readElement t a k => some (t, .readElement a k)
  | .setTimetableSettings t l g => some (t, .setTimetableSettings l g)
  | .setChangeover t i d => some (t, .setChangeover i d)
  | .loadEntry t p => some (t, .loadEntry p)
  | .withdrawEntry t i => some (t, .withdrawEntry i)
  | .erasePeriod t p => some (t, .erasePeriod p)
  | .readEntry t i k => some (t, .readEntry i k)
  | .readRecord t f => some (t, .readRecord f)
  | .acknowledgeRecord t n => some (t, .acknowledgeRecord n)
  | .setActions t n l => some (t, .setActions n l)
  | .acknowledgeAlarm t k a => some (t, .acknowledgeAlarm k a)
  | .setClockLine t p => some (t, .setClockLine p)
  | .requestState t v => some (t, .requestState v)
  | .setRunCondition t v => some (t, .setRunCondition v)
  | .acknowledgeErrorIndication t => some (t, .acknowledgeErrorIndication)
  | .restart t => some (t, .restart)
  | _ => none

/-- Oscillator periods between the previous command and this one; a power row has none (log 1). -/
def Instr.delay : Instr → Nat
  | .powerOn _ | .resetAssert => 0
  | .firstLinkReport n _ _ | .linkDown n _ | .linkUp n _ | .loopStateChange n _ | .frameStart n _ _
  | .telegramParse n _ _ | .telegramCheck n _ _ | .frameCut n _ _ | .frameEnd n _ _ | .portSilenceDeadline n _
  | .lastOctetLeft n _ => n
  | .referenceMessage n _ _ | .messageOctetTimeout n _ | .messageFramingError n _ | .markLeadingEdge n _
  | .markTrailingEdge n _ | .markWidthLimit n _ | .markDeadline n _ | .absenceDeadline n _ | .revertInstant n _
  | .messageOctet n _ _ => n
  | .holdoverSecond n | .scaleEndHold n | .secondMarkStart n | .secondMarkEnd n | .offsetChangeInstant n => n
  | .elementSilenceDeadline n _ | .startDeadline n _ | .runDeadline n _ | .settleDeadline n _ | .confirmDeadline n _ => n
  | .changeover n | .drainEnd n | .timetableExpiry n => n
  | .pulseStart n _ | .currentPresent n _ _ | .pulseEnd n _ | .overcurrent n _ _ | .retryDeadline n _ => n
  | .readStatus t | .setTimeConfiguration t _ | .setLocalOffset t _ _ | .setRingPort t _ _ _ | .loadElement t _
  | .unloadElement t _ | .setElementMode t _ _ | .readElement t _ _ | .setTimetableSettings t _ _
  | .setChangeover t _ _ | .loadEntry t _ | .withdrawEntry t _ | .erasePeriod t _ | .readEntry t _ _
  | .readRecord t _ | .acknowledgeRecord t _ | .setActions t _ _ | .acknowledgeAlarm t _ _ | .setClockLine t _
  | .requestState t _ | .setRunCondition t _ | .acknowledgeErrorIndication t | .restart t => t.dt

/-- A deadline row names an element address (R61). -/
def isAddress (a : Nat) : Bool := decide (1 ≤ a) && decide (a ≤ 0xEFFF)

/-- A command is well formed. A frame begins with at most its 18 header octets, a telegram has at least its header and
lies in a frame, a message has twelve octets, a deadline row names an element address, and a service row's fields fit. -/
def Instr.wellFormed : Instr → Bool
  | .frameStart _ _ head => decide (head.length ≤ 18)
  | .telegramParse _ _ o => decide (6 ≤ o.length) && decide (o.length ≤ 1518)
  | .frameCut _ _ o => decide (1 ≤ o.length)
  | .frameEnd _ _ o => decide (o.length ≤ 1536)
  | .referenceMessage _ _ o => decide (o.length = 12)
  | .elementSilenceDeadline _ a => isAddress a
  | .startDeadline _ a => isAddress a
  | .runDeadline _ a => isAddress a
  | .settleDeadline _ a => isAddress a
  | .confirmDeadline _ a => isAddress a
  | i =>
    match i.request with
    | some (_, r) => r.wellFormed
    | none => true

end Sys2Proof
end

