-- ==== Sys2Proof/Certificates/Slice0/Obligations.lean ====
section
/-! DEFINITION. The statements for the provers. `s.advance dt` is the state in which a command's effect begins, when the
command comes `dt` oscillator periods after the one before it (log 1). -/

open Sys2Proof Sys2Proof.Machine

/-! ## The queue and power -/

/-- A step with a command at the front of the queue is that command's effect on the state with the queue's rest (the
queue is the model's own, log 40). -/
def Obligations.StepRunsFront : Prop :=
  ∀ (s : State) (c : Instr) (rest : List Instr), s.pending = c :: rest → step s = exec c { s with pending := rest }

/-- What a step does on an empty queue: nothing in reset, one oscillator period when nothing is due, else the due rows join the
queue in some order (the model's choice, log 3). A timer row is due, with no time of its own, exactly when its deadline, its
instant or the condition of its rule has come; that a message octet is waited for 1041 us beyond the 5 ms, the time of the
octet itself, is the model's reading (log 21), and so is the flag of a reached boundary (log 4). -/
def Obligations.StepOnEmptyQueue : Prop :=
  ∀ s : State, s.pending = [] →
    (s.inReset = true → step s = .next s)
    ∧ (s.inReset = false → s.dueCommands = [] → step s = .next (s.advance 1))
    ∧ (s.inReset = false → s.dueCommands ≠ [] →
        ∃ t, step s = .next t ∧ t.pending.Perm s.dueCommands ∧ sameBut s t [.pending, .choices])
    ∧ (let now := s.time.elapsed
      let passed (d : Option Nat) : Prop := ∃ e, d = some e ∧ e ≤ now
      let record (a : Nat) (p : ElementRecord → Prop) : Prop := ∃ r ∈ s.elements, r.address = a ∧ p r
      let moves (a : Nat) (p : Movement → Prop) : Prop := record a (fun r => ∃ m, r.movement = some m ∧ p m)
      let starts (x : Line) : Prop :=
        let seconds : Int := ((s.time.centre % 86400000000000 / 1000000000 : Nat) + 60 * s.time.localOffset) % 86400
        x.state = .running ∧ s.time.timeSet = true ∧ x.pulse = none ∧ x.polarity.isSome = true
          ∧ (∀ k, x.lastStart = some k → k + x.fast * 1000 ≤ now)
          ∧ ∃ n, x.shown = some n ∧
            let d := (seconds.toNat % 43200 / x.step + 43200 / x.step - n) % (43200 / x.step)
            1 ≤ d ∧ d + x.wait * 60 / x.step + 1 ≤ 43200 / x.step
      let due (c : Instr) : Prop :=
        match c with
        | .loopStateChange k p => k = 0 ∧ (s.port p).demand ≠ (s.port p).loop ∧ (s.port p).transmitter = .idle
        | .portSilenceDeadline k p => k = 0 ∧ passed (s.port p).silenceDeadline
        | .messageOctetTimeout k w => k = 0 ∧ (s.wired w).collected ≠ [] ∧ (s.wired w).octetEnd + 5000 + 1041 < now
        | .markWidthLimit k w => k = 0 ∧ ∃ m, (s.wired w).mark = some m ∧ m.capture.elapsed + 500000 < now
        | .markDeadline k x => k = 0 ∧ passed (s.source x).markDeadline
        | .absenceDeadline k x => k = 0 ∧ passed (s.source x).absenceDeadline
        | .revertInstant k x =>
          k = 0 ∧ (s.source x).state = .qualified
            ∧ ∃ y q, s.refs.selected = some y ∧ (s.time.config.source x).priority < (s.time.config.source y).priority
              ∧ (s.source x).qualifiedSince = some q ∧ q + s.time.config.revertHold * 1000000 ≤ now
        | .holdoverSecond k => k = 0 ∧ s.time.mode = .holdover ∧ passed s.time.nextHoldover
        | .scaleEndHold k => k = 0 ∧ s.time.centre = 5662310399999999999 ∧ s.time.held = false
        | .secondMarkStart k => k = 0 ∧ s.time.boundary = true
        | .secondMarkEnd k => k = 0 ∧ passed s.time.secondMarkEnd
        | .offsetChangeInstant k => k = 0 ∧ ∃ o, s.time.pendingOffset = some o ∧ o.instant.nanos ≤ s.time.centre
        | .elementSilenceDeadline k a => k = 0 ∧ record a (fun r => r.coverage = .observed ∧ passed r.silenceDeadline)
        | .startDeadline k a => k = 0 ∧ moves a (fun m => m.phase = .commanded ∧ m.startDeadline ≤ now)
        | .runDeadline k a => k = 0 ∧ moves a (fun m => ¬ (m.phase = .settling ∧ m.runPassed = true) ∧ m.runDeadline ≤ now)
        | .settleDeadline k a => k = 0 ∧ moves a (fun m => m.phase = .settling ∧ passed m.settleDeadline)
        | .confirmDeadline k a =>
          k = 0 ∧ record a (fun r => ∃ x, r.confirmation = some x ∧ x.overdue = false ∧ x.deadline ≤ now)
        | .changeover k =>
          k = 0 ∧ (∃ x, s.checker.schedule = some x ∧ x.instant.nanos ≤ s.time.centre) ∧ ∃ p, s.tag p = .live
        | .drainEnd k =>
          k = 0 ∧ (∃ d, s.checker.drainEnd = some d ∧ d * 1000000000 ≤ s.time.centre) ∧ ∃ p, s.tag p = .draining
        | .timetableExpiry k =>
          k = 0 ∧ s.service.state = .run ∧ s.time.quality ≠ .q4
            ∧ ∃ e ∈ s.checker.store, e.state = .pending ∧ e.expiry * 1000000000 ≤ s.time.centre
        | .pulseStart k l => k = 0 ∧ starts (s.line l)
        | .pulseEnd k l => k = 0 ∧ ∃ p, (s.line l).pulse = some p ∧ p.deadline ≤ now
        | .retryDeadline k l => k = 0 ∧ passed (s.line l).retryDeadline
        | _ => False
      ∀ c, c ∈ s.dueCommands ↔ due c)

/-- POWER_ON gives every block its power-on values and reads the straps (the idle pins, the receiver's octet instant, the
parts below 1 ns and 1 us and the counts of choices and loads are the model's, log 4, log 8, log 21, log 33, log 34, log 39,
log 52). RESET_ASSERT switches off drives and outputs and keeps nothing; that no other command reaches the part while it
lasts is read from R187 (log 7). -/
def Obligations.PowerOnAndReset : Prop :=
  (∀ (straps : Byte) (s : State),
    let ports : Port :=
      { up := false, reported := false, mode := .auto, demand := .isClosed, loop := .isClosed, reopenCount := 0,
        reopenPending := false, activity := .active, silenceDeadline := none, silenceLimit := 100, badFrames := 0,
        frame := none, awaitingEnd := false, transmitter := .idle, sendLost := false, lastSent := [] }
    let source : SourceState :=
      { state := .absent, good := 0, bad := 0, previousGood := none, qualifiedSince := none, markDeadline := none,
        absenceDeadline := none }
    let wires : WiredState := { lineActive := false, mark := none, message := none, collected := [], octetEnd := 0 }
    let lines : Line :=
      { state := .hold, enable := false, step := 60, shown := none, polarity := none, width := 500, fast := 2000,
        wait := 60, retry := 30, shortCount := 0, openReported := false, lastStart := none, pulse := none,
        retryDeadline := none, drive := false, bridge := .positive, current := false, overCurrent := false }
    let stamp : Stamp := { day := 0, micros := 0, epoch := 0, quality := .q4 }
    ∃ t, exec (.powerOn straps) s = .next t ∧ t.pending = s.pending ∧ t.inReset = false ∧ t.choices = 0
      ∧ t.service = { state := .config, runCondition := true, error := none, stationAddress := 0xF000 + straps.toNat }
      ∧ t.time =
        { centre := 0, centreFrac := 0, held := false, elapsed := 0, elapsedFrac := 0, epoch := 0, mode := .free,
          timeSet := false, c := 0, i := 0, u := 4294967295, stepCount := 0, quality := .q4, nextHoldover := none,
          localOffset := 0, pendingOffset := none, boundary := false, secondMark := false, secondMarkEnd := none,
          config :=
            { stepThreshold := 100, stepPermit := true, stepInRun := true, fineEntry := 1000, fineExit := 4000, kp := 3,
              ki := 8, slewRate := 200000, holdDrift := 500, l1 := 1000, l2 := 10, l3 := 100,
              ref1 := { enable := true, priority := 1, delay := 0 },
              ref2 := { enable := true, priority := 2, delay := 0 },
              ring := { enable := false, priority := 3, delay := 0 },
              nQual := 10, nDisq := 3, revertHold := 60, masterEnable := false, masterAddress := 0xF000 } }
      ∧ t.refs =
        { ref1 := source, ref2 := source, ring := source, wired1 := wires, wired2 := wires, lastRingSecond := none,
          selected := none }
      ∧ (∀ p, t.port p = ports) ∧ t.elements = []
      ∧ t.checker =
        { store := [], tagA := .live, tagB := .standby, schedule := none, drainEnd := none, lead := 1800, grace := 120,
          loads := 0 }
      ∧ t.record =
        { entries :=
            [{ sequence := 1, body := .statePowerOn (0xF000 + straps.toNat), stamp := stamp, adjusted := false,
               alarm := true, action := none, latch := false, test := false }]
          next := 2, last := some stamp, tally := none }
      ∧ (∀ k, k ∈ [ActionKind.failedToStart, .failedToDetect, .detectionLost, .uncommandedMove, .aspectNotShown, .qualityQ4] →
          t.actionOf k = .latch)
      ∧ (∀ k, k ∈ [ActionKind.slowMovement, .early, .onTime, .late, .unobserved, .unplanned, .sourceChange, .jabber] →
          t.actionOf k = .record)
      ∧ (∀ k, k ∈ [ActionKind.chatter, .trend, .signalDropped, .lampDark, .coverageLost, .severe, .missed, .qualityQ3,
            .holdover, .lineOpen, .lineShort, .portLinkDown, .portSilent] → t.actionOf k = .alert)
      ∧ (∀ g, t.latchOf g = none) ∧ t.alarms.output = false ∧ ∀ l, t.line l = lines)
  ∧ (∀ s : State, ∃ t, exec .resetAssert s = .next t ∧ t.inReset = true ∧ t.pending = s.pending
    ∧ t.line1.drive = false ∧ t.line2.drive = false ∧ t.time.secondMark = false ∧ t.alarms.output = false
    ∧ t.portA.transmitter = .idle ∧ t.portB.transmitter = .idle ∧ t.elements = [] ∧ t.checker.store = []
    ∧ t.record.entries = [])
  ∧ ∀ (s : State) (i : Instr), s.inReset = true → i ≠ .resetAssert → (∀ straps, i ≠ .powerOn straps) →
      exec i s = .next s

/-! ## Time base -/

/-- In 25 000 000 oscillator periods both counts grow by (1 + c × 10⁻⁹) s; a held centre time stays, and the elapsed
count goes on. The parts below 1 ns and 1 us are the model's (log 4). -/
def Obligations.CountsGrowAtTheDisciplinedRate : Prop :=
  ∀ s : State, s.TimeOk →
    ((s.advance 25000000).time.elapsed : Int) * 1000000000000 + (s.advance 25000000).time.elapsedFrac
        = s.time.elapsed * 1000000000000 + s.time.elapsedFrac + (1000000000 + s.time.c) * 1000000000
    ∧ (s.time.held = true → (s.advance 25000000).time.centre = s.time.centre)
    ∧ (s.time.held = false → s.time.centreFrac < 1000000000 → s.time.centre + 2000000000 < Config.lastScale →
        ((s.advance 25000000).time.centre : Int) * 1000000000 + (s.advance 25000000).time.centreFrac
          = s.time.centre * 1000000000 + s.time.centreFrac + (1000000000 + s.time.c) * 1000000000)
    ∧ sameBut s (s.advance 25000000) [.time]

/-- The correction at an accepted mark in FINE or SLEW: that of FINE where no step is due and the mark leaves the mode FINE,
that of SLEW where it leaves the mode SLEW. -/
def Obligations.CorrectionAtMark : Prop :=
  ∀ (s : State) (m : AcceptedMark), (s.time.mode = .fine ∨ s.time.mode = .slew) →
    let e : Int :=
      max (-2147483647) (min 2147483647 (((m.capture.centre : Int) - m.delay) - m.announced))
    (s.countAfter m ≠ 3 → (s.acceptedMark m).time.mode = .fine →
      let p := -(Int.tdiv e (2 ^ s.time.config.kp : Nat))
      let i := max (-50000) (min 50000 (s.time.i - Int.tdiv e (2 ^ s.time.config.ki : Nat)))
      (s.acceptedMark m).time.i = i ∧ (s.acceptedMark m).time.c = max (-50000) (min 50000 (p + i))
        ∧ (e.natAbs < 2 ^ s.time.config.kp → p = 0)
        ∧ (e.natAbs < 2 ^ s.time.config.ki → Int.tdiv e (2 ^ s.time.config.ki : Nat) = 0))
    ∧ ((s.acceptedMark m).time.mode = .slew →
      (s.acceptedMark m).time.c
          = max (-500000) (min 500000 (s.time.i - (if 0 < e then 1 else if e < 0 then -1 else 0) * s.time.config.slewRate))
        ∧ (s.acceptedMark m).time.i = s.time.i)

/-- The exact phase error of an accepted mark and the loop error saturated from it; the step count in FINE or SLEW; the mode
hysteresis where no step is due; the forced slew where one is due and not permitted; the uncertainty of both. Such a mark ends
with one evaluation of the quality class from the state that its stages leave, and a rise from Q4 expires what is due. -/
def Obligations.HysteresisAndForcedSlewAtMark : Prop :=
  ∀ (s : State) (m : AcceptedMark), (s.time.mode = .fine ∨ s.time.mode = .slew) →
    let exact : Int := ((m.capture.centre : Int) - m.delay) - m.announced
    let e : Int := max (-2147483647) (min 2147483647 exact)
    let n := if s.time.config.stepThreshold * 1000000 ≤ exact.natAbs then min (s.time.stepCount + 1) 3 else 0
    let t := s.acceptedMark m
    let barred : Prop :=
      s.time.config.stepPermit = false ∨ (s.service.state = .run ∧ s.time.config.stepInRun = false) ∨ 65535 ≤ s.time.epoch
    m.eFull = exact ∧ m.e = e ∧ s.countAfter m = n
    ∧ (n ≠ 3 ∨ barred →
      let v : State := { s with time := { t.time with quality := s.time.quality } }
      t.time.quality = v.evalQuality.time.quality
        ∧ (s.time.quality ≠ .q4 ∨ t.time.quality = .q4 → t = v.evalQuality)
        ∧ (s.time.quality = .q4 → t.time.quality ≠ .q4 →
            recordGrows v.evalQuality t ∧ sameBut v.evalQuality t [.checker, .record, .alarms, .elements]
              ∧ (s.service.state = .run →
                  ∀ x ∈ t.checker.store, x.state = .pending → t.time.centre < x.expiry * 1000000000)))
    ∧ (n ≠ 3 →
      (s.time.mode = .fine → t.time.mode = if s.time.config.fineExit * 1000 < e.natAbs then .slew else .fine)
      ∧ (s.time.mode = .slew → t.time.mode = if e.natAbs < s.time.config.fineEntry * 1000 then .fine else .slew)
      ∧ t.time.u = min exact.natAbs 4294967295 ∧ t.time.stepCount = n ∧ t.time.epoch = s.time.epoch
      ∧ t.time.centre = s.time.centre ∧ t.time.elapsed = s.time.elapsed)
    ∧ (n = 3 → barred →
      t.time.mode = .slew ∧ t.time.i = s.time.i
        ∧ t.time.c
          = max (-500000) (min 500000 (s.time.i - (if 0 < e then 1 else if e < 0 then -1 else 0) * s.time.config.slewRate))
        ∧ t.time.u = min exact.natAbs 4294967295 ∧ t.time.stepCount = 3 ∧ t.time.epoch = s.time.epoch
        ∧ t.time.centre = s.time.centre ∧ t.time.elapsed = s.time.elapsed)

/-- The first set with its SET entry, and a due and permitted step with its STEP entry as the first of the new epoch, either
ending with the evaluation of the quality class. A centre time moved below day 0 is a free value (log 19) and is not spoken of;
that one moved to the last scale value itself is held at once is the model's choice (log 42), and so are the captures taken
after the move and before it for a GAP entry (log 36). -/
def Obligations.FirstSetAndStepAtMark : Prop :=
  ∀ (s : State) (m : AcceptedMark),
    let t := s.acceptedMark m
    let exact : Int := ((m.capture.centre : Int) - m.delay) - m.announced
    let v := (s.time.centre : Int) - exact
    (s.time.mode = .free →
      t.time.epoch = min (s.time.epoch + 1) 65535 ∧ t.time.timeSet = true ∧ t.time.mode = .fine ∧ t.time.i = 0
        ∧ t.time.c = 0 ∧ t.time.u = 0 ∧ t.time.stepCount = 0 ∧ t.time.elapsed = s.time.elapsed
        ∧ (0 ≤ v → v < 5662310399999999999 →
            (t.time.centre : Int) = v ∧ t.time.held = false ∧ (s.refs.selected.isSome = true → t.time.quality = .q1))
        ∧ (5662310399999999999 ≤ v →
            t.time.centre = 5662310399999999999 ∧ t.time.held = true ∧ t.time.quality = .q4)
        ∧ (s.record.entries.length < 7936 →
            ∃ e l, t.record.entries = s.record.entries ++ e :: l ∧ e.stamp.epoch = min (s.time.epoch + 1) 65535
              ∧ e.alarm = false ∧ e.action = none ∧ e.latch = false ∧ e.test = false
              ∧ e.body = .timeSet s.time.centre t.time.centre exact m.source (min (s.time.epoch + 1) 65535)))
    ∧ ((s.time.mode = .fine ∨ s.time.mode = .slew) → s.countAfter m = 3 → s.time.config.stepPermit = true →
      (s.service.state = .config ∨ s.time.config.stepInRun = true) → s.time.epoch < 65535 →
      t.time.epoch = s.time.epoch + 1 ∧ t.time.u = 0 ∧ t.time.mode = .fine ∧ t.time.i = s.time.i ∧ t.time.c = s.time.i
        ∧ t.time.stepCount = 0 ∧ t.time.elapsed = s.time.elapsed
        ∧ t.time.quality
            = ({ s with time := { t.time with quality := s.time.quality } } : State).evalQuality.time.quality
        ∧ (0 ≤ v → v < 5662310399999999999 → (t.time.centre : Int) = v ∧ t.time.held = false)
        ∧ (5662310399999999999 ≤ v → t.time.centre = 5662310399999999999 ∧ t.time.held = true)
        ∧ (s.record.tally = none → s.record.entries.length < 8192 →
            ∃ e l, t.record.entries = s.record.entries ++ e :: l ∧ e.stamp.epoch = s.time.epoch + 1 ∧ e.alarm = true
              ∧ e.body = .timeStep s.time.centre t.time.centre exact m.source (s.time.epoch + 1))
        ∧ (∀ k, s.record.tally = some k → s.record.entries.length < 8191 →
            ∃ g e l, t.record.entries = s.record.entries ++ g :: e :: l ∧ g.body = .gap k ∧ g.stamp.epoch = s.time.epoch
              ∧ e.stamp.epoch = s.time.epoch + 1
              ∧ e.body = .timeStep s.time.centre t.time.centre exact m.source (s.time.epoch + 1)))

/-- An evaluation of the quality class: a better class at half its limit, degradation at once, else no change; Q1 only
with a source selected and mode FINE, and none of Q1 to Q3 while time is unset or held at the end of the scale. A change hands
on its QUALITY entry: as QUALITY_Q3 or QUALITY_Q4 on the time base, or as a routine entry for Q1 and Q2. -/
def Obligations.QualityEvaluation : Prop :=
  ∀ s : State, s.TimeOk →
    let trusted : Prop := s.time.timeSet = true ∧ s.time.held = false
    let holds (b : Quality) : Prop :=
      match b with
      | .q1 => trusted ∧ s.refs.selected.isSome = true ∧ s.time.mode = .fine ∧ s.time.u ≤ s.time.config.l1 * 1000
      | .q2 => trusted ∧ s.time.u ≤ s.time.config.l2 * 1000000
      | .q3 => trusted ∧ s.time.u ≤ s.time.config.l3 * 1000000
      | .q4 => True
    let enters (b : Quality) : Prop :=
      match b with
      | .q1 => trusted ∧ s.refs.selected.isSome = true ∧ s.time.mode = .fine ∧ 2 * s.time.u ≤ s.time.config.l1 * 1000
      | .q2 => trusted ∧ 2 * s.time.u ≤ s.time.config.l2 * 1000000
      | .q3 => trusted ∧ 2 * s.time.u ≤ s.time.config.l3 * 1000000
      | .q4 => True
    let q := s.evalQuality.time.quality
    let now := s.time.quality
    (∀ b, b.rank < now.rank → enters b → q.rank ≤ b.rank ∧ q.rank < now.rank ∧ enters q)
    ∧ ((∀ b, b.rank < now.rank → ¬ enters b) → holds now → q = now)
    ∧ ((∀ b, b.rank < now.rank → ¬ enters b) → ¬ holds now → holds q ∧ ∀ b, holds b → q.rank ≤ b.rank)
    ∧ holds q
    ∧ (q = .q1 → s.refs.selected.isSome = true ∧ s.time.mode = .fine)
    ∧ (q ≠ .q4 → s.time.timeSet = true ∧ s.time.held = false)
    ∧ (q = now → s.evalQuality = s)
    ∧ (q ≠ now →
        let u : State := { s with time := { s.time with quality := q } }
        let b := EntryBody.timeQuality now q s.time.u
        ((q = .q1 ∨ q = .q2) → s.evalQuality = u.note s.capture b false)
          ∧ (q = .q3 → s.evalQuality = u.raise { kind := .qualityQ3, target := .time, capture := s.capture, body := b })
          ∧ (q = .q4 → s.evalQuality = u.raise { kind := .qualityQ4, target := .time, capture := s.capture, body := b }))
    ∧ sameBut s s.evalQuality [.time, .record, .alarms]

/-- The loss of the last QUALIFIED source enters HOLDOVER when time is set, and the mode stays when it is not; the selection
of a source ends it; HOLDOVER_SECOND adds HOLD_DRIFT to U and sets the next holdover second; SCALE_END_HOLD holds centre
time at the last nanosecond, with class Q4. -/
def Obligations.HoldoverAndScaleEnd : Prop :=
  ∀ (s : State) (dt : Nat), s.inReset = false →
    (∀ (x : Source) (d : Nat), s.refs.selected = some x → (s.source x).absenceDeadline = some d →
      d ≤ (s.advance dt).time.elapsed → (∀ y, y ≠ x → (s.source y).state ≠ .qualified) →
      ∃ t, exec (.absenceDeadline dt x) s = .next t ∧ t.refs.selected = none ∧ t.time.stepCount = 0
        ∧ t.time.u = s.time.u ∧ t.time.i = s.time.i ∧ t.time.quality ≠ .q1
        ∧ t.time.centre = (s.advance dt).time.centre ∧ t.time.elapsed = (s.advance dt).time.elapsed
        ∧ (s.time.timeSet = true → t.time.mode = .holdover ∧ t.time.c = s.time.i
            ∧ t.time.nextHoldover = some ((s.advance dt).time.elapsed + 1000000)
            ∧ recordGrows ((s.advance dt).raise
                { kind := .holdover, target := .time, capture := (s.advance dt).capture,
                  body := .timeHoldover x s.time.u s.time.i }) t)
        ∧ (s.time.timeSet = false → t.time.mode = s.time.mode ∧ t.time.c = s.time.c
            ∧ t.time.nextHoldover = s.time.nextHoldover)) ∧
    (∀ (x : Source) (r : SelectReason), s.time.mode = .holdover →
      (s.select x r).time = { s.time with mode := .slew, nextHoldover := none, stepCount := 0 }
        ∧ (s.select x r).refs = { s.refs with selected := some x }) ∧
    (∀ d, s.time.mode = .holdover → s.time.nextHoldover = some d → d ≤ (s.advance dt).time.elapsed →
      ∃ t, exec (.holdoverSecond dt) s = .next t
        ∧ t.time.u = min (s.time.u + s.time.config.holdDrift) 4294967295 ∧ t.time.nextHoldover = some (d + 1000000)
        ∧ t.time.mode = .holdover ∧ t.time.c = s.time.c ∧ t.time.i = s.time.i
        ∧ t.time.centre = (s.advance dt).time.centre ∧ t.time.elapsed = (s.advance dt).time.elapsed
        ∧ sameBut (s.advance dt) t [.time, .record, .alarms, .elements, .checker] ∧ sameElements s t ∧ recordGrows s t)
    ∧ ((s.advance dt).time.centre = 5662310399999999999 → s.time.held = false →
      ∃ t, exec (.scaleEndHold dt) s = .next t ∧ t.time.held = true ∧ t.time.quality = .q4
        ∧ t.time.centre = 5662310399999999999 ∧ t.time.elapsed = (s.advance dt).time.elapsed
        ∧ (∀ n, (t.advance n).time.centre = 5662310399999999999)
        ∧ sameBut (s.advance dt) t [.time, .record, .alarms, .elements] ∧ sameElements s t ∧ recordGrows s t)

/-- A second boundary is reached when the advance takes centre time into another whole second, and not by a first set or a step.
SECOND_MARK_START raises the output at a second boundary with time set and class Q3 or better, and leaves it otherwise;
SECOND_MARK_END lets it fall; OFFSET_CHANGE_INSTANT replaces the local offset at its instant and forms the OFFSET CHANGE
entry. The flag of a reached boundary is the model's (log 4), and so is that a boundary during a pulse begins a new one
(log 27). -/
def Obligations.SecondMarkAndOffsetChange : Prop :=
  ∀ (s : State) (dt : Nat), s.inReset = false →
    ((s.advance dt).time.boundary = true ↔ s.time.boundary = true
      ∨ (s.advance dt).time.centre / 1000000000 ≠ s.time.centre / 1000000000)
    ∧ (∀ m, (s.acceptedMark m).time.boundary = s.time.boundary)
    ∧ ((s.advance dt).time.boundary = true →
      exec (.secondMarkStart dt) s = .next
        { s.advance dt with time :=
          if s.time.timeSet = true ∧ s.time.quality ≠ .q4 then
            { (s.advance dt).time with
              boundary := false, secondMark := true, secondMarkEnd := some ((s.advance dt).time.elapsed + 100000) }
          else { (s.advance dt).time with boundary := false } })
    ∧ (∀ d, s.time.secondMarkEnd = some d → d ≤ (s.advance dt).time.elapsed →
      exec (.secondMarkEnd dt) s = .next
        { s.advance dt with time := { (s.advance dt).time with secondMark := false, secondMarkEnd := none } })
    ∧ ∀ o : PendingOffset, s.time.pendingOffset = some o → o.instant.nanos ≤ (s.advance dt).time.centre →
      ∃ t, exec (.offsetChangeInstant dt) s = .next t
        ∧ t.time = { (s.advance dt).time with localOffset := o.offset, pendingOffset := none }
        ∧ noted (s.advance dt) t (.timeOffsetChange s.time.localOffset o.offset (some o.instant)) false
        ∧ sameBut (s.advance dt) t [.time, .record]

/-! ## Reference selector -/

/-- The conditions of a valid message. REFERENCE_MESSAGE: a complete message replaces the held message, and a valid one renews
the absence deadline; a disabled source takes no message and no octet. MESSAGE_OCTET, MESSAGE_OCTET_TIMEOUT and
MESSAGE_FRAMING_ERROR: the receiver hunts, collects, completes and drops; an octet more than 5 ms after the last finds it
hunting. The time of one octet on the line, 1041 us, is the model's reading (log 21). -/
def Obligations.ReferenceMessagesAreReceived : Prop :=
  (∀ o : List Byte, o.length = 12 →
    let second := number ((o.drop 3).take 3)
    let right : Prop :=
      o[11]? = some 0x5A ∧ number ((o.drop 9).take 2) = (crc16 ((o.drop 1).take 8)).toNat ∧ second ≤ 86399
    let read (k : MessageStatus) : Option MessageContents :=
      some { day := number ((o.drop 1).take 2), second := second, status := k, counter := number ((o.drop 7).take 1) }
    (right → o[6]? = some 0x01 → messageContents o = read .ok)
      ∧ (right → o[6]? = some 0x02 → messageContents o = read .degraded)
      ∧ (right → o[6]? = some 0x03 → messageContents o = read .unlocked)
      ∧ ((¬ right ∨ (o[6]? ≠ some 0x01 ∧ o[6]? ≠ some 0x02 ∧ o[6]? ≠ some 0x03)) → messageContents o = none))
  ∧ ∀ (s : State) (dt : Nat) (w : Wired) (o : List Byte), s.inReset = false →
    let late : Prop := (s.wired w).octetEnd + 5000 + 1041 < (s.advance dt).time.elapsed
    ((s.time.config.source w.source).enable = false →
      exec (.referenceMessage dt w o) s = .next (s.advance dt)
        ∧ ∀ b, exec (.messageOctet dt w b) s = .next (s.advance dt))
    ∧ ((s.time.config.source w.source).enable = true → o.length = 12 → o.head? = some 0xA5 →
    ∃ t, exec (.referenceMessage dt w o) s = .next t
      ∧ (t.wired w).message = some { arrived := (s.advance dt).time.elapsed, contents := messageContents o }
      ∧ (t.wired w).collected = [] ∧ (t.wired w).lineActive = (s.wired w).lineActive ∧ (t.wired w).mark = (s.wired w).mark
      ∧ t.source w.source =
          (if (messageContents o).isSome then
            { s.source w.source with absenceDeadline := some ((s.advance dt).time.elapsed + 3000000) }
          else s.source w.source)
      ∧ (∀ x, x ≠ w.source → t.source x = s.source x) ∧ (∀ z, z ≠ w → t.wired z = s.wired z)
      ∧ sameBut (s.advance dt) t [.refs])
    ∧ ((s.time.config.source w.source).enable = true →
      ∀ b : Byte,
      ((s.wired w).collected = [] →
        ∃ t, exec (.messageOctet dt w b) s = .next t ∧ (t.wired w).collected = (if b = 0xA5 then [b] else [])
          ∧ (t.wired w).message = (s.wired w).message ∧ sameBut (s.advance dt) t [.refs])
      ∧ ((s.wired w).collected ≠ [] → late →
        ∃ t, exec (.messageOctet dt w b) s = .next t ∧ (t.wired w).collected = (if b = 0xA5 then [b] else [])
          ∧ (t.wired w).message = (s.wired w).message ∧ sameBut (s.advance dt) t [.refs])
      ∧ ((s.wired w).collected ≠ [] → (s.wired w).collected.length < 11 → ¬ late →
        ∃ t, exec (.messageOctet dt w b) s = .next t ∧ (t.wired w).collected = (s.wired w).collected ++ [b]
          ∧ (t.wired w).message = (s.wired w).message ∧ sameBut (s.advance dt) t [.refs])
      ∧ ((s.wired w).collected.length = 11 → ¬ late →
        ∃ t, exec (.messageOctet dt w b) s = .next t ∧ (t.wired w).collected = []
          ∧ (t.wired w).message = some { arrived := (s.advance dt).time.elapsed,
                                         contents := messageContents ((s.wired w).collected ++ [b]) }
          ∧ sameBut (s.advance dt) t [.refs])
      ∧ ((s.wired w).collected ≠ [] → (s.wired w).octetEnd + 5000 < (s.advance dt).time.elapsed →
        exec (.messageOctetTimeout dt w) s
          = .next ((s.advance dt).setWired w { s.wired w with collected := [] }))
      ∧ exec (.messageFramingError dt w) s = .next ((s.advance dt).setWired w { s.wired w with collected := [] }))

/-- MARK_LEADING_EDGE takes the capture, notes the held message and sets the mark deadline of a source not ABSENT; of a
disabled source it moves the line's level alone. -/
def Obligations.LeadingEdgeBeginsMark : Prop :=
  ∀ (s : State) (dt : Nat) (w : Wired), s.inReset = false → (s.wired w).lineActive = false →
    ((s.time.config.source w.source).enable = false →
      exec (.markLeadingEdge dt w) s = .next ((s.advance dt).setWired w { s.wired w with lineActive := true }))
    ∧ ((s.time.config.source w.source).enable = true →
    ∃ t, exec (.markLeadingEdge dt w) s = .next t
      ∧ t.wired w = { s.wired w with
          lineActive := true, mark := some { capture := (s.advance dt).capture, message := (s.wired w).message } }
      ∧ t.source w.source =
          (if (s.source w.source).state = .absent then s.source w.source
          else { s.source w.source with markDeadline := some ((s.advance dt).time.elapsed + 1500000) })
      ∧ (∀ x, x ≠ w.source → t.source x = s.source x) ∧ (∀ z, z ≠ w → t.wired z = s.wired z)
      ∧ t.refs.selected = s.refs.selected ∧ t.refs.lastRingSecond = s.refs.lastRingSecond
      ∧ sameBut (s.advance dt) t [.refs])

/-- MARK_TRAILING_EDGE and MARK_WIDTH_LIMIT judge the mark in progress by the four conditions of a good mark, and move the
source's qualification by the row of its state. A good mark of the selected source, or of one that it brings to QUALIFIED and
into the selection, goes to the time base as accepted mark; one of another source goes no further. Bad marks that disqualify
the selected source move the selection to the best QUALIFIED one, or to none. That a good mark which finds its source's revert
instant reached takes the revert within its own event, and so first, is the model's choice (log 53). That a lead of 10 000 or
990 000 us itself is good is the model's choice (log 62). -/
def Obligations.MarkIsJudged : Prop :=
  ∀ (s : State) (dt : Nat) (w : Wired) (m : MarkInProgress), s.inReset = false → (s.wired w).mark = some m →
    let x := s.source w.source
    let now := (s.advance dt).time.elapsed
    let good (h : HeldMessage) (c : MessageContents) : Prop :=
      c.status = .ok ∧ 10000 ≤ m.capture.elapsed - h.arrived ∧ m.capture.elapsed - h.arrived ≤ 990000
        ∧ 5000 ≤ now - m.capture.elapsed ∧ now - m.capture.elapsed ≤ 500000
        ∧ (x.good = 0
          ∨ ∃ p, x.previousGood = some p ∧ p + 1000000000 = c.day * 86400000000000 + c.second * 1000000000)
    let afterGood (c : MessageContents) : SourceState :=
      let y := { x with bad := 0, previousGood := some (c.day * 86400000000000 + c.second * 1000000000) }
      match x.state with
      | .absent | .disqualified => { y with state := .qualifying, good := 1 }
      | .qualifying =>
        if s.time.config.nQual ≤ min (x.good + 1) 255 then
          { y with state := .qualified, good := min (x.good + 1) 255, qualifiedSince := some now }
        else { y with good := min (x.good + 1) 255 }
      | .qualified => { y with good := min (x.good + 1) 255 }
    let afterBad : SourceState :=
      match x.state with
      | .absent => { x with previousGood := none }
      | .disqualified => { x with good := 0, previousGood := none }
      | .qualifying | .qualified =>
        if s.time.config.nDisq ≤ x.bad + 1 then
          { x with state := .disqualified, good := 0, bad := s.time.config.nDisq, previousGood := none, qualifiedSince := none }
        else { x with good := 0, bad := x.bad + 1, previousGood := none }
    let after (y : SourceState) : State :=
      ((s.advance dt).setWired w { s.wired w with lineActive := false, mark := none }).setSource w.source y
    let accepted (c : MessageContents) : AcceptedMark :=
      { capture := m.capture, announced := c.day * 86400000000000 + c.second * 1000000000,
        delay := (s.time.config.source w.source).delay, source := w.source }
    let taken (c : MessageContents) (t : State) : Prop :=
      let y := afterGood c
      let v := after y
      (s.refs.selected = some w.source → x.state = .qualified → v.revertsNone w.source → t = v.acceptedMark (accepted c))
      ∧ (s.refs.selected = none → y.state = .qualified → v.othersUnqualified w.source →
          t = (v.select w.source .qualified).acceptedMark (accepted c))
      ∧ ∀ z, s.refs.selected = some z → z ≠ w.source → (s.source z).state = .qualified →
          (v.revertsNone z → t = v)
          ∧ (∀ k, y.state = .qualified → y.qualifiedSince = some k → k + s.time.config.revertHold * 1000000 ≤ now →
              (s.time.config.source w.source).priority < (s.time.config.source z).priority →
              (∀ o j, o ≠ w.source → (s.source o).state = .qualified →
                (s.time.config.source o).priority < (s.time.config.source z).priority →
                (s.source o).qualifiedSince = some j → now < j + s.time.config.revertHold * 1000000) →
              t = (v.select w.source .revert).acceptedMark (accepted c))
    let lost (t : State) : Prop :=
      s.refs.selected = some w.source → x.state = .qualified → s.time.config.nDisq ≤ x.bad + 1 →
        (s.advance dt).lostTo w.source t
    (∃ t, exec (.markTrailingEdge dt w) s = .next t ∧ (t.wired w).mark = none ∧ (t.wired w).lineActive = false
      ∧ (∀ h c, m.message = some h → h.contents = some c → good h c →
          t.source w.source = afterGood c ∧ taken c t)
      ∧ ((∀ h c, m.message = some h → h.contents = some c → ¬ good h c) →
          t.source w.source = afterBad ∧ lost t)
      ∧ (∀ y, y ≠ w.source → t.source y = s.source y)
      ∧ sameBut (s.advance dt) t [.time, .refs, .record, .alarms, .elements, .checker, .choices])
    ∧ (m.capture.elapsed + 500000 < now →
      ∃ t, exec (.markWidthLimit dt w) s = .next t ∧ (t.wired w).mark = none
        ∧ (t.wired w).lineActive = (s.wired w).lineActive ∧ t.source w.source = afterBad
        ∧ lost t ∧ (∀ y, y ≠ w.source → t.source y = s.source y)
        ∧ sameBut (s.advance dt) t [.time, .refs, .record, .alarms, .elements, .checker])

/-- MARK_DEADLINE counts a missing mark, ABSENCE_DEADLINE makes the source ABSENT, and REVERT_INSTANT moves the selection.
The selected source that a missing mark disqualifies, or that becomes ABSENT, loses the selection to the best QUALIFIED one or
to none; else the selection stays, where no revert instant is reached. -/
def Obligations.SourceDeadlines : Prop :=
  ∀ (s : State) (dt : Nat) (x : Source), s.inReset = false →
    let stays (t : State) : Prop :=
      ∀ z, s.refs.selected = some z → (t.source z).state = .qualified → (s.advance dt).revertsNone z →
        t.refs.selected = some z
    (∀ d, (s.source x).markDeadline = some d → d ≤ (s.advance dt).time.elapsed →
      ∃ t, exec (.markDeadline dt x) s = .next t
        ∧ t.source x =
            (let y := { s.source x with markDeadline := some (d + 1500000), previousGood := none }
             match y.state with
             | .absent => y
             | .disqualified => { y with good := 0 }
             | .qualifying | .qualified =>
               if s.time.config.nDisq ≤ y.bad + 1 then
                 { y with state := .disqualified, good := 0, bad := s.time.config.nDisq, qualifiedSince := none }
               else { y with good := 0, bad := y.bad + 1 })
        ∧ (s.refs.selected = some x → (s.source x).state = .qualified → s.time.config.nDisq ≤ (s.source x).bad + 1 →
            (s.advance dt).lostTo x t)
        ∧ stays t
        ∧ (∀ y, y ≠ x → t.source y = s.source y)
        ∧ sameBut (s.advance dt) t [.time, .refs, .record, .alarms, .elements, .checker])
    ∧ (∀ d, (s.source x).absenceDeadline = some d → d ≤ (s.advance dt).time.elapsed →
      ∃ t, exec (.absenceDeadline dt x) s = .next t
        ∧ t.source x =
            { state := .absent, good := 0, bad := 0, previousGood := none, qualifiedSince := none, markDeadline := none,
              absenceDeadline := none }
        ∧ (s.refs.selected = some x → (s.advance dt).lostTo x t) ∧ stays t
        ∧ (x = .ring → t.refs.lastRingSecond = none) ∧ (∀ y, y ≠ x → t.source y = s.source y)
        ∧ sameBut (s.advance dt) t [.time, .refs, .record, .alarms, .elements, .checker])
    ∧ ∀ (y : Source) (q : Nat), s.refs.selected = some y → (s.source x).state = .qualified →
        (s.time.config.source x).priority < (s.time.config.source y).priority →
        (s.source x).qualifiedSince = some q →
        q + s.time.config.revertHold * 1000000 ≤ (s.advance dt).time.elapsed →
        ∃ t, exec (.revertInstant dt x) s = .next t ∧ t.refs.selected = some x ∧ t.time.stepCount = 0
          ∧ recordGrows ((s.advance dt).raise
              { kind := .sourceChange, target := .time, capture := (s.advance dt).capture,
                body := .timeSourceChange (some y) (some x) .revert }) t
          ∧ (∀ z, t.source z = s.source z)
          ∧ sameBut (s.advance dt) t [.time, .refs, .record, .alarms, .elements, .checker]

/-- A TIME telegram applied at its frame's commit: not considered, passed over, or taken as a good or a bad RING mark. A good
mark that qualifies RING while no source is selected selects it, that of the selected RING goes to the time base, that of
another goes no further; bad marks that disqualify the selected RING move the selection on, with its SOURCE CHANGE or HOLDOVER
entry. That a slot repeating the last ring second is passed over whatever its quality code is the model's choice (log 61). -/
def Obligations.RingMarkAtCommit : Prop :=
  ∀ (s : State) (p : PortId) (n : Nat) (i : Item) (a k : Nat) (b : List Byte), i.content = .time a k b →
    let day := number ((b.drop 3).take 2)
    let nanos := number ((b.drop 5).take 6)
    let q := number ((b.drop 13).take 1)
    let followed : Prop :=
      b.length = 14 ∧ number (b.take 1) = 1 ∧ number ((b.drop 1).take 2) = s.time.config.masterAddress
    let second := (day, nanos / 1000000000)
    let x := s.refs.ring
    let t := State.commitItem p true n s i
    let mark : AcceptedMark :=
      { capture := i.capture, announced := day * 86400000000000 + nanos, delay := s.time.config.ring.delay,
        source := .ring }
    let counted : SourceState :=
      { x with
        good := min (x.good + 1) 255, bad := 0, absenceDeadline := some (s.time.elapsed + 3000000),
        markDeadline := some (i.capture.elapsed + 1500000) }
    let after (y : SourceState) : State := { s with refs := { s.refs with ring := y, lastRingSecond := some second } }
    State.commitItem p false n s i = s
    ∧ (s.time.config.ring.enable = false → t = s)
    ∧ (s.time.config.ring.enable = true → followed → nanos < 86400000000000 → s.refs.lastRingSecond = some second →
      t = s.setSource .ring { x with absenceDeadline := some (s.time.elapsed + 3000000) })
    ∧ (s.time.config.ring.enable = true →
      ¬ (followed ∧ nanos < 86400000000000 ∧ s.refs.lastRingSecond = some second) →
      (followed → t.refs.ring.absenceDeadline = some (s.time.elapsed + 3000000))
      ∧ (¬ followed → t.refs.ring.absenceDeadline = x.absenceDeadline)
      ∧ t.refs.ring.markDeadline
        = (if x.state = .absent then x.markDeadline else some (i.capture.elapsed + 1500000))
      ∧ ((followed ∧ nanos < 86400000000000) → t.refs.lastRingSecond = some second)
      ∧ (¬ (followed ∧ nanos < 86400000000000) → t.refs.lastRingSecond = s.refs.lastRingSecond)
      ∧ ((followed ∧ nanos < 86400000000000 ∧ (q = 1 ∨ q = 2)) →
        t.refs.ring.bad = 0
          ∧ ((x.state = .absent ∨ x.state = .disqualified) → t.refs.ring.state = .qualifying ∧ t.refs.ring.good = 1)
          ∧ ((x.state = .qualifying ∨ x.state = .qualified) → t.refs.ring.good = min (x.good + 1) 255)
          ∧ (x.state = .qualifying → t.refs.ring.state
              = if s.time.config.nQual ≤ min (x.good + 1) 255 then .qualified else .qualifying)
          ∧ (x.state = .qualified → t.refs.ring.state = .qualified))
      ∧ (¬ (followed ∧ nanos < 86400000000000 ∧ (q = 1 ∨ q = 2)) →
        (x.state = .absent → t.refs.ring.state = .absent ∧ t.refs.ring.good = x.good ∧ t.refs.ring.bad = x.bad)
          ∧ (x.state = .disqualified →
              t.refs.ring.state = .disqualified ∧ t.refs.ring.good = 0 ∧ t.refs.ring.bad = x.bad)
          ∧ ((x.state = .qualifying ∨ x.state = .qualified) → t.refs.ring.good = 0
              ∧ t.refs.ring.bad = min (x.bad + 1) s.time.config.nDisq
              ∧ t.refs.ring.state = if s.time.config.nDisq ≤ x.bad + 1 then .disqualified else x.state))
      ∧ ((followed ∧ nanos < 86400000000000 ∧ (q = 1 ∨ q = 2)) →
        (x.state = .qualified → s.refs.selected = some .ring → s.revertsNone .ring → t = (after counted).acceptedMark mark)
          ∧ (x.state = .qualifying → s.time.config.nQual ≤ min (x.good + 1) 255 → s.refs.selected = none →
              s.othersUnqualified .ring →
              t = ((after { counted with state := .qualified, qualifiedSince := some s.time.elapsed }).select .ring
                    .qualified).acceptedMark mark)
          ∧ (∀ y, x.state = .qualified → s.refs.selected = some y → y ≠ .ring → (s.source y).state = .qualified →
              s.revertsNone y → t = after counted))
      ∧ (¬ (followed ∧ nanos < 86400000000000 ∧ (q = 1 ∨ q = 2)) → x.state = .qualified → s.refs.selected = some .ring →
        s.time.config.nDisq ≤ x.bad + 1 →
        s.lostTo .ring t)
      ∧ t.refs.ref1 = s.refs.ref1 ∧ t.refs.ref2 = s.refs.ref2 ∧ t.refs.wired1 = s.refs.wired1
      ∧ t.refs.wired2 = s.refs.wired2
      ∧ sameBut s t [.time, .refs, .record, .alarms, .elements, .checker, .choices])

/-! ## Ring ports and frame engine -/

/-- FIRST_LINK_REPORT gives the port's initial link, loop and silence deadline, and forms no entry; that it reads a loop mode
set before it is the model's (log 13). LINK_UP when the link was DOWN starts the silence watch and the reopening, with its
entry before that of the loop (log 45). -/
def Obligations.LinkReportsStartThePort : Prop :=
  ∀ (s : State) (dt : Nat) (p : PortId), s.inReset = false →
    (∀ up : Bool, (s.port p).reported = false →
    ∃ t d, exec (.firstLinkReport dt p up) s = .next t
      ∧ t.port p = { s.port p with
          up := up, reported := true, demand := d, loop := d,
          silenceDeadline := if up then some ((s.advance dt).time.elapsed + 100000) else none }
      ∧ ((s.port p).mode = .auto → d = if up then .isOpen else .isClosed)
      ∧ ((s.port p).mode = .autoClose → d = if up = true ∧ (s.port p).reopenPending = false then .isOpen else .isClosed)
      ∧ ((s.port p).mode = .alwaysOpen → d = .isOpen) ∧ ((s.port p).mode = .alwaysClosed → d = .isClosed)
      ∧ t.port p.other = s.port p.other ∧ sameBut (s.advance dt) t [.portA, .portB])
    ∧ ((s.port p).reported = true → (s.port p).up = false →
    ∃ t, exec (.linkUp dt p) s = .next t
      ∧ (t.port p).up = true ∧ (t.port p).activity = .active
      ∧ (t.port p).silenceDeadline = some ((s.advance dt).time.elapsed + (s.port p).silenceLimit * 1000)
      ∧ ((s.port p).mode = .autoClose → (t.port p).reopenPending = true ∧ (t.port p).reopenCount = 0
          ∧ (t.port p).demand = .isClosed)
      ∧ ((s.port p).mode = .auto → (t.port p).demand = .isOpen)
      ∧ ((s.port p).mode = .alwaysOpen → (t.port p).demand = .isOpen)
      ∧ ((s.port p).mode = .alwaysClosed → (t.port p).demand = .isClosed)
      ∧ ((s.port p).transmitter = .idle → (t.port p).loop = (t.port p).demand)
      ∧ ((s.port p).transmitter ≠ .idle → (t.port p).loop = (s.port p).loop)
      ∧ (t.port p).transmitter = (s.port p).transmitter ∧ (t.port p).sendLost = (s.port p).sendLost
      ∧ t.record =
          (let u := (s.advance dt).note (s.advance dt).capture (.portLinkUp p)
           if (t.port p).loop = (s.port p).loop then u.record
           else (u.note (s.advance dt).capture (.portLoop p (t.port p).loop (s.port p).mode)).record)
      ∧ t.port p.other = s.port p.other ∧ sameBut (s.advance dt) t [.portA, .portB, .record])

/-- LINK_DOWN when the link was UP: the frame in flight is discarded and its forwarded copy ended badly, a frame being sent is
lost, deadline and count go, LINK_DOWN is raised, and a loop changes at once only while the transmitter is idle. -/
def Obligations.LinkDownDiscards : Prop :=
  ∀ (s : State) (dt : Nat) (p : PortId), s.inReset = false → (s.port p).reported = true → (s.port p).up = true →
    let n := if (s.port p).frame.isSome then min ((s.port p).badFrames + 1) 65535 else (s.port p).badFrames
    ∃ t, exec (.linkDown dt p) s = .next t
      ∧ (t.port p).up = false ∧ (t.port p).frame = none ∧ (t.port p).silenceDeadline = none
      ∧ (t.port p).activity = (s.port p).activity ∧ (t.port p).reopenCount = 0 ∧ (t.port p).mode = (s.port p).mode
      ∧ (t.port p).reopenPending = (s.port p).reopenPending ∧ (t.port p).badFrames = n
      ∧ (t.port p).demand = (if (s.port p).mode = .alwaysOpen then .isOpen else .isClosed)
      ∧ (∀ f q, (s.port p).frame = some f → f.through = some q →
          (t.port q).transmitter
            = .sending p (some (f.flush.sent ++ checkOctets (~~~(crc32 f.flush.sent)))))
      ∧ (∀ q, (∀ f, (s.port p).frame = some f → f.through ≠ some q) → (t.port q).transmitter = (s.port q).transmitter)
      ∧ ((s.port p).transmitter ≠ .idle → (t.port p).sendLost = true ∧ (t.port p).loop = (s.port p).loop)
      ∧ ((t.port p).transmitter = .idle → (t.port p).loop = (t.port p).demand)
      ∧ (t.port p.other).frame = (s.port p.other).frame ∧ (t.port p.other).loop = (s.port p.other).loop
      ∧ ((s.port p).frame = none → t.port p.other = s.port p.other)
      ∧ (let u := (s.advance dt).raise
           { kind := .portLinkDown, target := .port p, capture := (s.advance dt).capture, body := .portLinkDown p n }
         t.alarms = u.alarms
           ∧ t.record = if (t.port p).loop = (s.port p).loop then u.record
              else (u.note (s.advance dt).capture (.portLoop p (t.port p).loop (s.port p).mode)).record)
      ∧ sameBut (s.advance dt) t [.portA, .portB, .record, .alarms]

/-- FRAME_START routes the frame by the other port's loop state, claims an idle transmitter, which
loses it while its link is down, and marks it processed. -/
def Obligations.FrameStartRoutes : Prop :=
  ∀ (s : State) (dt : Nat) (p : PortId) (head : List Byte), s.inReset = false → (s.port p).up = true →
    (s.port p).frame = none → (s.port p).awaitingEnd = false →
    let out := if (s.port p.other).loop = .isOpen then p.other else p
    ∃ t f, exec (.frameStart dt p head) s = .next t ∧ (t.port p).frame = some f
      ∧ f.received = head ∧ f.sent = head ∧ f.parsed = 0 ∧ f.items = [] ∧ f.telegram = none
      ∧ (f.processed = true ↔ p = .a ∨ s.portA.up = false)
      ∧ ((s.port out).transmitter = .idle → f.through = some out ∧ (t.port out).transmitter = .sending p none
          ∧ (t.port out).sendLost = !(s.port out).up)
      ∧ ((s.port out).transmitter ≠ .idle → f.through = none ∧ (t.port out).transmitter = (s.port out).transmitter)
      ∧ (t.port p.other).frame = (s.port p.other).frame
      ∧ sameBut (s.advance dt) t [.portA, .portB]

/-- TELEGRAM_PARSE: octets beyond the telegram count or the 64th telegram pass unread, and no slot there is filled; a
telegram within the limits is captured at its first octet and classified; a master fills a TIME
slot of a processed frame, and else the slot passes as it arrived. That the slot's time is taken 30 periods after it was
received is the model's reading (log 26), and that its epoch and class are those of its arrival the model's choice (log 50). -/
def Obligations.ParseCapturesTelegram : Prop :=
  ∀ (s : State) (dt : Nat) (p : PortId) (f : Frame) (o : List Byte), s.inReset = false → (s.port p).frame = some f →
    f.telegram = none →
    let within : Prop :=
      field f.received 12 2 = 0x9A42 ∧ f.parsed < field f.received 16 1 ∧ f.parsed < 64 ∧ 6 ≤ o.length
    (¬ within → exec (.telegramParse dt p o) s = .next ((s.advance dt).setPort p
      { s.port p with frame := some { f with received := f.received ++ o, sent := f.sent ++ o } }))
    ∧ (within → ∃ t g x, exec (.telegramParse dt p o) s = .next t ∧ (t.port p).frame = some g ∧ g.telegram = some x
      ∧ g.parsed = f.parsed + 1 ∧ g.items = f.items ∧ g.received = f.received ∧ g.sent = f.sent
      ∧ x.received = o ∧ x.position = f.parsed + 1 ∧ x.capture = (s.advance dt).capture
      ∧ (∀ k : TelegramKind, field o 2 1 = (match k with | .command => 0x01 | .status => 0x02) → 1 ≤ field o 0 2 →
          field o 0 2 ≤ 0xEFFF → o.length = 6 + field o 4 2 →
          x.sent = o ∧ x.inserted = false ∧ x.content = some (.element k (field o 0 2) (field o 3 1) (o.drop 6)))
      ∧ (field o 2 1 = 0x10 →
          let master : Prop :=
            f.processed = true ∧ field o 4 2 = 14 ∧ s.time.config.masterEnable = true ∧ s.time.timeSet = true
              ∧ (s.time.quality = .q1 ∨ s.time.quality = .q2)
          let c := ((s.advance dt).time.advance 30).centre
          (master → x.inserted = true
            ∧ x.sent = (o.take 6
                ++ ([0x01] ++ octets 2 s.service.stationAddress ++ octets 2 (c / 86400000000000)
                  ++ octets 6 (c % 86400000000000) ++ octets 2 s.time.epoch ++ octets 1 s.time.quality.rank)
                ++ o.drop 20).take o.length)
          ∧ (¬ master → x.inserted = false ∧ x.sent = o)
          ∧ (o.length = 6 + field o 4 2 → x.content = some (.time (field o 0 2) (field o 3 1) (o.drop 6))))
      ∧ (((field o 2 1 = 0x01 ∨ field o 2 1 = 0x02) ∧ (field o 0 2 = 0 ∨ 0xEFFF < field o 0 2)
            ∨ (field o 2 1 ≠ 0x01 ∧ field o 2 1 ≠ 0x02 ∧ field o 2 1 ≠ 0x10 ∧ field o 2 1 ≠ 0x20)) →
          x.inserted = false ∧ x.sent = o ∧ x.content = none)
      ∧ t.port p.other = s.port p.other ∧ sameBut (s.advance dt) t [.portA, .portB])

/-- The CRC-16, the CRC-32 and the octets of a frame check. TELEGRAM_CHECK: a good check lets the telegram join the pending
list; an inserted telegram leaves with a check made good only when the received one was. -/
def Obligations.CheckDecidesTelegram : Prop :=
  (crc16 [] = 0xFFFF
    ∧ (∀ (l : List Byte) (b : Byte),
        crc16 (l ++ [b])
            = (List.range 8).foldl (fun c _ => if c.msb then (c <<< 1) ^^^ 0x1021 else c <<< 1)
                (crc16 l ^^^ (b.zeroExtend 16 <<< 8)))
    ∧ crc32 [] = 0
    ∧ (∀ (l : List Byte) (b : Byte),
        crc32 (l ++ [b])
            = ~~~ ((List.range 8).foldl (fun c _ => if c.getLsbD 0 then (c >>> 1) ^^^ 0xEDB88320 else c >>> 1)
                (~~~ (crc32 l) ^^^ b.zeroExtend 32)))
    ∧ ∀ c : Word32, checkOctets c =
        [c.extractLsb' 0 8, c.extractLsb' 8 8, c.extractLsb' 16 8, c.extractLsb' 24 8])
  ∧ ∀ (s : State) (dt : Nat) (p : PortId) (f : Frame) (x : OpenTelegram) (check : Word16), s.inReset = false →
    (s.port p).frame = some f → f.telegram = some x →
    ∃ t g, exec (.telegramCheck dt p check) s = .next t ∧ (t.port p).frame = some g ∧ g.telegram = none
      ∧ g.parsed = f.parsed
      ∧ (crc16 x.received ≠ check → g.items = f.items)
      ∧ (crc16 x.received = check → ∀ c, x.content = some c →
          g.items = f.items ++ [{ position := x.position, ends := f.received.length + x.received.length + 2,
                                  capture := x.capture, content := c }])
      ∧ (crc16 x.received = check → x.content = none → g.items = f.items)
      ∧ g.received = f.received ++ x.received ++ octets 2 check.toNat
      ∧ (x.inserted = false → g.sent = f.sent ++ x.sent ++ octets 2 check.toNat)
      ∧ (x.inserted = true → crc16 x.received = check → g.sent = f.sent ++ x.sent ++ octets 2 (crc16 x.sent).toNat)
      ∧ (x.inserted = true → crc16 x.received ≠ check → g.sent = f.sent ++ x.sent ++ octets 2 (~~~(crc16 x.sent)).toNat)
      ∧ t.port p.other = s.port p.other ∧ sameBut (s.advance dt) t [.portA, .portB]

/-- FRAME_CUT at the 1537th octet: the frame is gone, counted and reported as JABBER, and its transmitter is free; its end, as
FRAME_END, only lets the port take frames again, and a FRAME_END that brings the 1537th octet does both. FRAME_END of a bad or
short frame: it is counted and nothing of it takes effect. What was forwarded of either ends in a bad check; that this is the
complement of the correct check after a cut too is the model's choice (log 58). That it shows in `lastSent` is the model's (log
34). FRAME_END of a good frame of another type: it is forwarded, and nothing counts. A ring frame, a good frame check, and the
octets of a frame that join it. -/
def Obligations.CutAndBadFramesAreDiscarded : Prop :=
  (∀ f : Frame,
    (f.isRing = true ↔ field f.received 12 2 = 0x9A42)
    ∧ (f.checkGood = true ↔
        f.received.drop (f.received.length - 4) = checkOctets (crc32 (f.received.take (f.received.length - 4))))
    ∧ ∀ o, f.flush.pass o =
        { f with
          received := f.received ++ (match f.telegram with | none => [] | some x => x.received) ++ o
          sent := f.sent ++ (match f.telegram with | none => [] | some x => x.sent) ++ o
          inserted := f.inserted || (match f.telegram with | none => false | some x => x.inserted)
          telegram := none })
  ∧ (∀ (s : State) (dt : Nat) (p : PortId) (o : List Byte), s.inReset = false → (s.port p).frame = none →
    exec (.frameEnd dt p o) s = .next ((s.advance dt).setPort p { s.port p with awaitingEnd := false }))
  ∧ ∀ (s : State) (dt : Nat) (p : PortId) (f : Frame) (o : List Byte), s.inReset = false → (s.port p).frame = some f →
    (1537 ≤ (f.flush.pass o).received.length →
      ∃ t, exec (.frameCut dt p o) s = .next t
        ∧ exec (.frameEnd dt p o) s = .next (t.setPort p { t.port p with awaitingEnd := false })
        ∧ (t.port p).frame = none ∧ (t.port p).awaitingEnd = true
        ∧ (t.port p).badFrames = min ((s.port p).badFrames + 1) 65535 ∧ (t.port p).reopenCount = 0
        ∧ (∀ q, f.through = some q → (t.port q).transmitter = .idle
            ∧ (t.port q).lastSent =
                (if (s.port q).sendLost then (s.port q).lastSent
                else
                  let o := (f.flush.pass o).sent.take 1536
                  o ++ checkOctets (~~~(crc32 o))))
        ∧ raised (s.advance dt) t { kind := .jabber, target := .port p, capture := (s.advance dt).capture,
                                    body := .portJabber p }
        ∧ sameBut (s.advance dt) t [.portA, .portB, .record, .alarms])
    ∧ ((f.flush.pass o).received.length ≤ 1536 →
      exec (.frameCut dt p o) s = .next ((s.advance dt).setPort p { s.port p with frame := some (f.flush.pass o) }))
    ∧ ((f.flush.pass o).received.length ≤ 1536 →
      ((f.flush.pass o).checkGood = false ∨ (f.flush.pass o).received.length < 64) →
      ∃ t, exec (.frameEnd dt p o) s = .next t ∧ (t.port p).frame = none
        ∧ (t.port p).badFrames = min ((s.port p).badFrames + 1) 65535 ∧ (t.port p).reopenCount = 0
        ∧ (∀ q, f.through = some q → (t.port q).transmitter = .sending p (some
            (let g := f.flush.pass o
             let o := g.sent.take (g.sent.length - 4)
             if g.inserted = true ∨ g.checkGood = true then o ++ checkOctets (~~~(crc32 o)) else g.sent)))
        ∧ (t.port p).silenceDeadline = (s.port p).silenceDeadline ∧ (t.port p).activity = (s.port p).activity
        ∧ sameBut (s.advance dt) t [.portA, .portB])
    ∧ (let g := f.flush.pass o
      let sent :=
        if g.inserted then
          let o := g.sent.take (g.sent.length - 4)
          o ++ checkOctets (crc32 o)
        else g.sent
      field g.received 12 2 ≠ 0x9A42 → g.checkGood = true → 64 ≤ g.received.length → g.received.length ≤ 1536 →
      ∃ t, exec (.frameEnd dt p o) s = .next t
        ∧ (∀ q, t.port q = { s.port q with
            frame := if q = p then none else (s.port q).frame,
            transmitter := if f.through = some q then .sending p (some sent) else (s.port q).transmitter })
        ∧ sameBut (s.advance dt) t [.portA, .portB])

/-- FRAME_END of a valid ring frame: its standing items are applied in order, an element item as its telegram with its capture
and port; its forwarded copy leaves with a good check; it counts toward reopening, renews the port's silence, with the ACTIVE
entry when the port was SILENT, and the loop state follows while the transmitter is idle. The order of the port's own steps
after the items is the model's (log 15). -/
def Obligations.ValidFrameCommits : Prop :=
  (∀ (s : State) (p : PortId) (processed : Bool) (since : Nat) (i : Item) (k : TelegramKind) (a n : Nat) (b : List Byte),
    i.content = .element k a n b →
    State.commitItem p processed since s i
      = s.applyElement { kind := k, address := a, sequence := n, capture := i.capture, port := p } b)
  ∧ ∀ (s : State) (dt : Nat) (p : PortId) (f : Frame) (o : List Byte), s.inReset = false → (s.port p).frame = some f →
    let g := f.flush.pass o
    let sent :=
      if g.inserted then
        let o := g.sent.take (g.sent.length - 4)
        o ++ checkOctets (crc32 o)
      else g.sent
    g.isRing = true → g.checkGood = true → 64 ≤ g.received.length → g.received.length ≤ 1536 →
    ∃ t b, exec (.frameEnd dt p o) s = .next t
      ∧ sameBut (s.advance dt) b [.portA, .portB]
      ∧ (∀ q, b.port q = { s.port q with
          frame := if q = p then none else (s.port q).frame,
          transmitter := if f.through = some q then .sending p (some sent) else (s.port q).transmitter })
      ∧ (let u := (g.items.filter (fun i => decide (i.ends + 4 ≤ g.received.length))).foldl
                    (State.commitItem p f.processed s.checker.loads) b
         let x := u.port p
         let y : Port :=
           if x.mode = .autoClose ∧ x.reopenPending = true ∧ x.up = true then
             if 3 ≤ x.reopenCount + 1 then { x with reopenPending := false, reopenCount := 0, demand := .isOpen }
             else { x with reopenCount := x.reopenCount + 1 }
           else x
         let z : Port :=
           { y with activity := .active, silenceDeadline := some (u.time.elapsed + x.silenceLimit * 1000) }
         let v := if x.activity = .silent then u.note u.capture (.portActive p) else u
         let follows : Prop := z.demand ≠ z.loop ∧ z.transmitter = .idle
         sameBut u t [.portA, .portB, .record] ∧ t.port p.other = u.port p.other
           ∧ (follows → t.port p = { z with loop := z.demand }
               ∧ t.record = (v.note u.capture (.portLoop p z.demand z.mode)).record)
           ∧ (¬ follows → t.port p = z ∧ t.record = v.record))
      ∧ (t.port p).frame = none

/-- LOOP_STATE_CHANGE: at a frame boundary the loop state takes the demand, with its LOOP entry; PORT_SILENCE_DEADLINE
makes the port SILENT and raises PORT_SILENT; LAST_OCTET_LEFT frees the transmitter. That the loop state waits for its own
row once the transmitter is free, and the view `lastSent` of what was sent, are the model's (log 16, log 34). -/
def Obligations.LoopSilenceAndLastOctet : Prop :=
  ∀ (s : State) (dt : Nat) (p : PortId), s.inReset = false →
    ((s.port p).demand ≠ (s.port p).loop → (s.port p).transmitter = .idle →
      ∃ t, exec (.loopStateChange dt p) s = .next t ∧ t.port p = { s.port p with loop := (s.port p).demand }
        ∧ t.port p.other = s.port p.other
        ∧ noted (s.advance dt) t (.portLoop p (s.port p).demand (s.port p).mode) false
        ∧ sameBut (s.advance dt) t [.portA, .portB, .record])
    ∧ ((s.port p).transmitter ≠ .idle → exec (.loopStateChange dt p) s = .next (s.advance dt)) ∧
    (∀ d, (s.port p).silenceDeadline = some d → d ≤ (s.advance dt).time.elapsed →
      ∃ t, exec (.portSilenceDeadline dt p) s = .next t
        ∧ t.port p = { s.port p with activity := .silent, silenceDeadline := none } ∧ t.port p.other = s.port p.other
        ∧ raised (s.advance dt) t { kind := .portSilent, target := .port p, capture := (s.advance dt).capture,
                                    body := .portSilent p (s.port p).silenceLimit }
        ∧ sameBut (s.advance dt) t [.portA, .portB, .record, .alarms])
    ∧ ∀ q o, (s.port p).transmitter = .sending q (some o) →
      ∃ t, exec (.lastOctetLeft dt p) s = .next t
        ∧ t.port p = { s.port p with
            transmitter := .idle, sendLost := false,
            lastSent := if (s.port p).sendLost then (s.port p).lastSent else o }
        ∧ t.port p.other = s.port p.other ∧ sameBut (s.advance dt) t [.portA, .portB]

/-- Each port's state agrees with its link, its counts and its frame after every step, and so do the transmitters that frames
in flight have claimed. -/
def Obligations.PortsStayInOrder : Prop :=
  ∀ s t : State, s.PortsOk → step s = .next t → t.PortsOk

/-! ## Event record and alarm unit -/

/-- A capture, and the stamp formed from one; an entry of a kind outside the action table. An admission attempt: an alarm-class
one first writes the GAP entry of an open tally where there is room; the entry is then admitted with the next number and a
stamp that never falls behind the last of its epoch, or counted in the tally. -/
def Obligations.RecordAdmitsOrTallies : Prop :=
  ∀ (s : State) (d : Draft),
    let own (x : Draft) : Stamp :=
      { day := x.capture.centre / 86400000000000, micros := x.capture.centre % 86400000000000 / 1000,
        epoch := s.time.epoch, quality := s.time.quality }
    let issued (last : Option Stamp) (x : Draft) : Stamp × Bool :=
      match last with
      | some l =>
        if l.epoch = s.time.epoch ∧ ((own x).day < l.day ∨ ((own x).day = l.day ∧ (own x).micros < l.micros)) then
          ({ day := l.day, micros := l.micros, epoch := s.time.epoch, quality := s.time.quality }, true)
        else (own x, false)
      | none => (own x, false)
    let admitted (r : EventRecord) (x : Draft) : EventRecord :=
      { r with
        entries := r.entries ++
          [{ sequence := r.next, body := x.body, stamp := (issued r.last x).1, adjusted := (issued r.last x).2,
             alarm := x.alarm, action := x.action, latch := x.latch, test := x.test }]
        next := r.next + 1
        last := some (issued r.last x).1 }
    let counted (k : Tally) : Tally :=
      { k with
        last := own d
        routine := if d.alarm then k.routine else min (k.routine + 1) 65535
        alarm := if d.alarm then min (k.alarm + 1) 65535 else k.alarm }
    let room := if d.alarm then 8192 else 7936
    let t := s.attempt d
    (∀ c, s.stampOf c =
      { day := c.centre / 86400000000000, micros := c.centre % 86400000000000 / 1000, epoch := s.time.epoch,
        quality := s.time.quality })
    ∧ s.capture = { centre := s.time.centre, elapsed := s.time.elapsed }
    ∧ (∀ c b alarm, s.note c b alarm =
        s.attempt { capture := c, body := b, alarm := alarm, action := none, latch := false, test := false }) ∧
    (∀ k, d.alarm = true → s.record.tally = some k → s.record.entries.length < 8192 →
      let r := { admitted s.record
                  { capture := s.capture, body := .gap k, alarm := true, action := none, latch := false, test := false } with
                 tally := none }
      (s.record.entries.length + 1 < 8192 → t.record = admitted r d)
        ∧ (s.record.entries.length + 1 = 8192 →
            t.record = { r with tally := some { first := own d, last := own d, routine := 0, alarm := 1 } }))
    ∧ (d.alarm = false ∨ s.record.tally = none ∨ 8192 ≤ s.record.entries.length →
      (s.record.entries.length < room → t.record = admitted s.record d)
        ∧ (room ≤ s.record.entries.length →
            (s.record.tally = none → t.record =
              { s.record with tally := some { first := own d, last := own d, routine := if d.alarm then 0 else 1,
                                              alarm := if d.alarm then 1 else 0 } })
              ∧ (∀ k, s.record.tally = some k → t.record =
                  { s.record with tally := some (counted k) })))
    ∧ sameBut s t [.record]

/-- A raise: the action of its kind forms no entry, a routine or an alarm-class one, and LATCH latches a target that holds no
latched fault; a verdict that is not qualified forms a routine entry instead of an alarm-class one. A fault of an element is
the raise of its kind with the element as target and a FAULT entry of its details. -/
def Obligations.RaiseAppliesAction : Prop :=
  (∀ (s : State) (a : Nat) (c : Capture) (d : FaultDetail) (test : Bool),
    let kind : ActionKind :=
      match d with
      | .failedToStart _ _ _ _ => .failedToStart
      | .failedToDetect _ _ _ _ _ _ => .failedToDetect
      | .chatter _ _ _ => .chatter
      | .slowMovement _ _ => .slowMovement
      | .trend _ _ => .trend
      | .detectionLost _ => .detectionLost
      | .uncommandedMove _ _ _ => .uncommandedMove
      | .aspectNotShown _ _ _ _ _ => .aspectNotShown
      | .signalDropped _ _ _ => .signalDropped
      | .lampDark _ _ => .lampDark
      | .coverageLost _ _ => .coverageLost
    s.elementFault a c d test
      = s.raise { kind := kind, target := .element a, capture := c, body := .fault a d, test := test, qualified := true })
  ∧ ∀ (s : State) (r : Raise),
    let a := if s.actionOf r.kind = .off ∨ r.qualified = true then s.actionOf r.kind else .record
    let t := s.raise r
    let entry (alarm latch : Bool) : Draft :=
      { capture := r.capture, body := r.body, alarm := alarm, action := some a, latch := latch, test := r.test }
    (a = .off → t = s)
    ∧ (a = .record → t.record = (s.attempt (entry false false)).record ∧ sameBut s t [.record])
    ∧ (a = .alert → t.record = (s.attempt (entry true false)).record ∧ sameBut s t [.record])
    ∧ (a = .latch →
        (∀ f, s.latchOf r.target = some f →
          t.record = (s.attempt (entry true false)).record ∧ sameBut s t [.record])
        ∧ (s.latchOf r.target = none → s.targetHeld r.target = true →
            t.record = (s.attempt (entry true true)).record
              ∧ t.latchOf r.target = some { kind := .kind r.kind, stamp := s.stampOf r.capture }
              ∧ (∀ g, g ≠ r.target → t.latchOf g = s.latchOf g) ∧ t.alarms.output = true
              ∧ t.alarms.actions = s.alarms.actions ∧ sameElements s t ∧ sameBut s t [.record, .alarms, .elements]))

/-! ## Elements and supervision -/

/-- An element telegram is screened: an unknown address, a body that does not fit the record's kind, and IGNORE change nothing;
the bodies that fit, and their values. The sequence window: a duplicate or an old copy is ignored; a new telegram moves the
window and the last value of its kind alone. -/
def Obligations.SequenceWindow : Prop :=
  (∀ (s : State) (x : ElementTelegram) (body : List Byte),
    (s.element x.address = none → s.applyElement x body = s)
    ∧ ∀ r, s.element x.address = some r → (bodyValue x.kind r.kind body = none ∨ r.mode = .ignore) →
        s.applyElement x body = s)
  ∧ (∀ (body : List Byte) (v : Value),
    let valid (b : Byte) : Prop := (0x30 ≤ b.toNat ∧ b.toNat ≤ 0x39) ∨ (0x41 ≤ b.toNat ∧ b.toNat ≤ 0x5A)
    (bodyValue .command .point body = some v
        ↔ (body = [0x01] ∧ v = .target .normal) ∨ (body = [0x02] ∧ v = .target .reverse))
    ∧ (bodyValue .command .signal body = some v
        ↔ (∃ b : Byte, b.toNat ≤ 7 ∧ body = [b] ∧ v = .aspect b.toNat none)
          ∨ ∃ b c d e f : Byte, 1 ≤ b.toNat ∧ b.toNat ≤ 7 ∧ valid c ∧ valid d ∧ valid e ∧ valid f
              ∧ body = [b, c, d, e, f] ∧ v = .aspect b.toNat (some { c0 := c, c1 := d, c2 := e, c3 := f }))
    ∧ (bodyValue .status .point body = some v
        ↔ (body = [0x00] ∧ v = .detected .none) ∨ (body = [0x01] ∧ v = .detected .normal)
          ∨ (body = [0x02] ∧ v = .detected .reverse))
    ∧ (bodyValue .status .signal body = some v
        ↔ ∃ b : Byte, b.toNat ≤ 7 ∧ ((body = [b, 0x01] ∧ v = .shown b.toNat .proven)
            ∨ (body = [b, 0x02] ∧ v = .shown b.toNat .dark))))
  ∧ ∀ (s : State) (x : ElementTelegram) (body : List Byte) (r : ElementRecord) (v : Value),
    s.element x.address = some r → bodyValue x.kind r.kind body = some v → r.mode ≠ .ignore →
    (∀ h, r.sequence x.kind = some h → ((x.sequence + 256 - h) % 256 = 0 ∨ 128 ≤ (x.sequence + 256 - h) % 256) →
      s.applyElement x body = s)
    ∧ ((∀ h, r.sequence x.kind = some h →
          1 ≤ (x.sequence + 256 - h) % 256 ∧ (x.sequence + 256 - h) % 256 ≤ 127) →
        ∃ q, (s.applyElement x body).element x.address = some q ∧ q.sequence x.kind = some x.sequence
          ∧ q.last x.kind = some { value := v, stale := false }
          ∧ (∀ k, k ≠ x.kind → q.sequence k = r.sequence k ∧ q.last k = r.last k))

/-- An accepted element telegram: the value held and any ELEMENT entry, the coverage that a status regains or extends in RUN,
and the hand-off to supervision by mode. -/
def Obligations.AcceptedTelegramTakesEffect : Prop :=
  ∀ (s : State) (x : ElementTelegram) (body : List Byte) (r : ElementRecord) (v : Value),
    s.element x.address = some r → bodyValue x.kind r.kind body = some v → r.mode ≠ .ignore →
    (∀ h, r.sequence x.kind = some h →
      1 ≤ (x.sequence + 256 - h) % 256 ∧ (x.sequence + 256 - h) % 256 ≤ 127) →
    let old := (r.last x.kind).bind (fun h => if h.stale then none else some h.value)
    let d := x.capture.elapsed + r.silenceLimit * 1000
    let y : ElementRecord :=
      match x.kind with
      | .command => { r with lastCommand := some { value := v, stale := false }, commandSequence := some x.sequence }
      | .status => { r with lastStatus := some { value := v, stale := false }, statusSequence := some x.sequence }
    let t := s.applyElement x body
    ∃ q u, u.element x.address = some q ∧ othersSame s u x.address ∧ sameBut s u [.elements, .record]
      ∧ (old = some v → u.record = s.record)
      ∧ (old ≠ some v → u.record =
          (s.attempt
            { capture := x.capture, alarm := false, action := none, latch := false, test := decide (r.mode = .test),
              body := .element x.address r.kind x.kind x.sequence old v x.port old.isNone }).record)
      ∧ (x.kind = .command ∨ s.service.state = .config → q = y)
      ∧ (x.kind = .status → s.service.state = .run →
          (∀ e, r.coverage = .observed → r.silenceDeadline = some e → q = { y with silenceDeadline := some (max d e) })
            ∧ (r.coverage = .observed → r.silenceDeadline = none → q = { y with silenceDeadline := some d })
            ∧ (r.coverage ≠ .observed →
                q = { y with coverage := .observed, regained := some (s.stampOf x.capture), silenceDeadline := some d }))
      ∧ (s.service.state = .config ∨ r.mode = .test → t = u)
      ∧ (s.service.state = .run →
          (∀ k, v = .target k →
              t = if r.mode = .supervise ∧ old ≠ some v then u.pointCommand x.address k x.capture else u)
            ∧ (∀ k, v = .detected k →
              t = if r.mode = .supervise then u.pointStatus x.address old k (decide (old ≠ some v)) x.capture else u)
            ∧ (∀ k g, v = .aspect k g →
              t = if (r.mode = .supervise ∨ r.mode = .observe) ∧ old ≠ some v then u.signalCommand x.address k g x.capture
                else u)
            ∧ ∀ k l, v = .shown k l →
              t = if r.mode = .supervise ∨ r.mode = .observe then
                  u.signalStatus x.address old k l (decide (old ≠ some v)) x.capture
                else u)

/-- A new point command ends a movement in progress REVERSED, and then forms a NO_MOVE entry or starts a movement in COMMANDED;
the fields of a MOVEMENT entry; a stale value counts as absent. Deadlines that the command sets and that are already reached
are taken with it, in a free order where both are (log 18). That a NO_MOVE entry carries the last status as its origin is read
from R108 (log 29). -/
def Obligations.PointCommandStartsMovement : Prop :=
  ∀ (s : State) (a : Nat) (r : ElementRecord) (p : PointPart) (x : Target) (c : Capture),
    s.element a = some r → r.part = .point p →
    let shown : Option Detected := match fresh r.lastStatus with | some (.detected k) => some k | _ => none
    let position : Detected := match x with | .normal => .normal | .reverse => .reverse
    let m : Movement :=
      { phase := .commanded, target := x, origin := shown, command := { capture := c, stamp := s.stampOf c }, leave := none,
        arrival := none, startDeadline := c.elapsed + p.startLimit * 1000, runDeadline := c.elapsed + p.runLimit * 1000000,
        settleDeadline := none, bounces := 0, runPassed := false }
    let u : State := match p.movement with | some k => s.note c (.movement (k.entry a .reversed none none)) | none => s
    let t := s.pointCommand a x c
    (∀ (k : Movement) (o : MovementOutcome) (duration : Option Nat) (fault : Option ActionKind),
      k.entry a o duration fault =
        { element := a, outcome := o, target := k.target, origin := k.origin, command := k.command.stamp,
          leave := k.leave.map (fun d => d.stamp), arrival := k.arrival.map (fun d => d.stamp), duration := duration,
          bounces := k.bounces, fault := fault })
    ∧ (∀ h : Option Held, fresh h = h.bind (fun v => if v.stale then none else some v.value))
    ∧ (shown = some position →
      t.element a = some { r with part := .point { p with movement := none } }
        ∧ t.record = (u.note c (.movement (m.entry a .noMove (some 0) none))).record
        ∧ othersSame s t a ∧ sameBut s t [.elements, .record])
    ∧ (shown ≠ some position → s.time.elapsed < m.startDeadline → s.time.elapsed < m.runDeadline →
        t.element a = some { r with part := .point { p with movement := some m } } ∧ t.record = u.record
          ∧ othersSame s t a ∧ sameBut s t [.elements, .record])
    ∧ (shown ≠ some position → m.startDeadline ≤ s.time.elapsed → s.time.elapsed < m.runDeadline →
        ∃ q, t.element a = some q
          ∧ q.unlatched =
              { r.unlatched with part := .point { p with movement := some { m with phase := .moving } } }
          ∧ t.record =
              (u.elementFault a s.capture (.failedToStart x shown p.startLimit (s.stampOf c))).record
          ∧ othersSame s t a ∧ sameBut s t [.elements, .record, .alarms])
    ∧ (shown ≠ some position → m.runDeadline ≤ s.time.elapsed →
        ∃ q w, t.element a = some q
          ∧ q.unlatched = { r.unlatched with part := .point { p with movement := none } }
          ∧ (w = u ∨ (m.startDeadline ≤ s.time.elapsed
              ∧ w = u.elementFault a s.capture (.failedToStart x shown p.startLimit (s.stampOf c))))
          ∧ t.record =
              ((w.elementFault a s.capture
                (.failedToDetect x shown p.runLimit (fresh r.lastStatus) none 0)).note s.capture
                  (.movement (m.entry a .failed none (some .failedToDetect)))).record
          ∧ othersSame s t a ∧ sameBut s t [.elements, .record, .alarms, .choices])

/-- An accepted point status: while IDLE it may raise DETECTION_LOST or UNCOMMANDED_MOVE; one captured before the command is
passed over; in COMMANDED and MOVING it leaves or arrives, in SETTLING it bounces, raises CHATTER or finds the run deadline
passed. A settle deadline that it sets and that is already reached is taken with it. -/
def Obligations.PointStatusIsJudged : Prop :=
  ∀ (s : State) (a : Nat) (r : ElementRecord) (p : PointPart) (old : Option Value) (shown : Detected) (change : Bool)
    (c : Capture), s.element a = some r → r.part = .point p →
    let t := s.pointStatus a old shown change c
    let now : Dated := { capture := c, stamp := s.stampOf c }
    let position (x : Target) : Detected := match x with | .normal => .normal | .reverse => .reverse
    let becomes (k : Movement) : Prop :=
      t.element a = some { r with part := .point { p with movement := some k } } ∧ othersSame s t a
        ∧ sameBut s t [.elements]
    let ends (e : State) : Prop :=
      ∃ q, t.element a = some q ∧ q.unlatched = { r.unlatched with part := .point { p with movement := none } }
        ∧ t.record = e.record ∧ othersSame s t a ∧ sameBut s t [.elements, .record, .alarms]
    (p.movement = none →
      (shown = .none →
        (∀ v, old = some v → v ≠ .detected .none → t = s.elementFault a c (.detectionLost v))
          ∧ (old = none ∨ old = some (.detected .none) → t = s))
      ∧ (shown ≠ .none →
          (∀ x, fresh r.lastCommand = some (.target x) → change = true → shown ≠ position x →
              t = s.elementFault a c (.uncommandedMove x shown old))
            ∧ ((change = false ∨ ∀ x, fresh r.lastCommand = some (.target x) → shown = position x) → t = s)))
    ∧ ∀ m, p.movement = some m →
      (c.elapsed < m.command.capture.elapsed → t = s)
      ∧ (m.command.capture.elapsed ≤ c.elapsed →
          let settle := c.elapsed + p.settleTime * 1000
          let arrived := { m with phase := .settling, arrival := some now, settleDeadline := some settle }
          (m.phase = .commanded → shown = .none → becomes { m with phase := .moving, leave := some now })
          ∧ (m.phase = .moving → shown = .none →
              becomes { m with leave := if m.leave.isSome then m.leave else some now })
          ∧ (m.phase ≠ .settling → shown = position m.target → s.time.elapsed < settle → becomes arrived)
          ∧ (m.phase ≠ .settling → shown = position m.target → settle ≤ s.time.elapsed →
              t = (s.setMovement a (some arrived)).settleDeadline a)
          ∧ (m.phase ≠ .settling → shown ≠ .none → shown ≠ position m.target → becomes m)
          ∧ (m.phase = .settling → shown = position m.target → t = s)
          ∧ (m.phase = .settling → shown ≠ position m.target →
              let back := { m with phase := .moving, bounces := m.bounces + 1, arrival := none, settleDeadline := none }
              (p.maxBounces < m.bounces + 1 →
                ends ((s.elementFault a c (.chatter m.target (m.bounces + 1) p.maxBounces)).note c
                  (.movement (back.entry a .failed none (some .chatter)))))
              ∧ (m.bounces + 1 ≤ p.maxBounces → m.runPassed = false → becomes back)
              ∧ (m.bounces + 1 ≤ p.maxBounces → m.runPassed = true →
                ends ((s.elementFault a s.capture
                  (.failedToDetect m.target m.origin p.runLimit (fresh r.lastStatus) (m.leave.map (·.stamp))
                    (m.bounces + 1))).note s.capture
                  (.movement (back.entry a .failed none (some .failedToDetect)))))))

/-- A changed signal command: STOP drops the confirmation pending; any other aspect sets one, and drops the cleared-for
unless it is tagged. A confirm deadline already reached is taken with it. -/
def Obligations.SignalCommandSetsConfirmation : Prop :=
  ∀ (s : State) (a : Nat) (r : ElementRecord) (g : SignalPart) (k : Nat) (tag : Option TrainTag) (c : Capture),
    s.element a = some r → r.part = .signal g →
    let t := s.signalCommand a k tag c
    let e := c.elapsed + g.confirmLimit * 1000
    let next (overdue : Bool) : ElementPart := .signal
      { g with
        clearedFor := if tag.isSome then g.clearedFor else none
        confirmation := some { aspect := k, tag := tag, command := { capture := c, stamp := s.stampOf c }, deadline := e,
                               overdue := overdue } }
    (k = 0 → t.element a = some { r with part := .signal { g with confirmation := none } }
      ∧ othersSame s t a ∧ sameBut s t [.elements])
    ∧ (k ≠ 0 → s.time.elapsed < e → t.element a = some { r with part := next false }
      ∧ othersSame s t a ∧ sameBut s t [.elements])
    ∧ (k ≠ 0 → e ≤ s.time.elapsed →
      ∃ q, t.element a = some q ∧ q.unlatched = { r.unlatched with part := next true }
        ∧ (r.mode = .supervise → t.record =
            (s.elementFault a s.capture
              (.aspectNotShown k tag g.confirmLimit (s.stampOf c) (fresh r.lastStatus))).record)
        ∧ (r.mode ≠ .supervise → t.record = s.record ∧ t.alarms = s.alarms)
        ∧ othersSame s t a ∧ sameBut s t [.elements, .record, .alarms])

/-- An accepted signal status: in SUPERVISE it may raise LAMP_DARK and SIGNAL_DROPPED; showing the commanded aspect, lamp
proven and not captured before the command, it confirms and may clear a train; else STOP after a STOP command passes the
cleared train. A train event is given at a timetable point alone. -/
def Obligations.SignalStatusIsJudged : Prop :=
  ∀ (s : State) (a : Nat) (r : ElementRecord) (g : SignalPart) (old : Option Value) (shown : Nat) (lamp : Lamp)
    (change : Bool) (c : Capture), s.element a = some r → r.part = .signal g →
    let t := s.signalStatus a old shown lamp change c
    let commanded : Option Nat := match fresh r.lastCommand with | some (.aspect k _) => some k | _ => none
    let dark : Prop := r.mode = .supervise ∧ lamp = .dark ∧ (old = none ∨ ∃ k, old = some (.shown k .proven))
    let dropped (p k : Nat) : Prop :=
      r.mode = .supervise ∧ change = true ∧ shown = 0 ∧ (∃ l, old = some (.shown p l)) ∧ commanded = some k ∧ 1 ≤ p ∧ 1 ≤ k
    let confirms (k : Confirmation) : Prop :=
      g.confirmation = some k ∧ shown = k.aspect ∧ lamp = .proven ∧ k.command.capture.elapsed ≤ c.elapsed
    let confirmed (k : Confirmation) : SignalPart :=
      { g with confirmation := none, clearedFor := if k.tag.isSome then k.tag else g.clearedFor }
    let event (x : TrainTag) (k : CheckKind) : TrainEvent := { train := x, element := a, check := k, stamp := s.stampOf c }
    ∃ u w : State,
      (dark → u = s.elementFault a c (.lampDark shown commanded)) ∧ (¬ dark → u = s)
      ∧ (∀ p k, dropped p k → w = u.elementFault a c (.signalDropped p k g.clearedFor))
      ∧ ((∀ p k, ¬ dropped p k) → w = u)
      ∧ (∀ k, confirms k → ∃ v q, v.element a = some q ∧ othersSame w v a ∧ sameBut w v [.elements]
          ∧ q.unlatched = { r.unlatched with part := .signal (confirmed k) }
          ∧ (k.tag = none ∨ k.tag = g.clearedFor ∨ g.timetablePoint = false → t = v)
          ∧ ∀ x, k.tag = some x → g.clearedFor ≠ some x → g.timetablePoint = true → t = v.trainEvent (event x .cleared))
      ∧ ((∀ k, ¬ confirms k) →
          (∀ x, g.clearedFor = some x → shown = 0 → commanded = some 0 →
            ∃ v q, v.element a = some q ∧ othersSame w v a ∧ sameBut w v [.elements]
              ∧ q.unlatched = { r.unlatched with part := .signal { g with clearedFor := none } }
              ∧ (g.timetablePoint = false → t = v) ∧ (g.timetablePoint = true → t = v.trainEvent (event x .passed)))
          ∧ (g.clearedFor = none ∨ shown ≠ 0 ∨ commanded ≠ some 0 → t = w))

/-- ELEMENT_SILENCE_DEADLINE: coverage OBSERVED becomes LOST and COVERAGE_LOST is raised. CONFIRM_DEADLINE marks the
confirmation overdue, and raises ASPECT_NOT_SHOWN in SUPERVISE alone. -/
def Obligations.SilenceAndConfirmDeadlines : Prop :=
  (∀ (s : State) (dt a d : Nat) (r : ElementRecord), s.inReset = false → s.element a = some r →
      r.coverage = .observed → r.silenceDeadline = some d → d ≤ (s.advance dt).time.elapsed →
      ∃ t q, exec (.elementSilenceDeadline dt a) s = .next t ∧ t.element a = some q
        ∧ q.unlatched = { r.unlatched with coverage := .lost, silenceDeadline := none }
        ∧ t.record = ((s.advance dt).elementFault a (s.advance dt).capture (.coverageLost r.silenceLimit r.regained)
            (decide (r.mode = .test))).record
        ∧ othersSame s t a ∧ sameBut (s.advance dt) t [.elements, .record, .alarms])
  ∧ (∀ (s : State) (dt a : Nat) (r : ElementRecord) (g : SignalPart) (k : Confirmation), s.inReset = false →
      s.element a = some r → r.part = .signal g → g.confirmation = some k → k.overdue = false →
      k.deadline ≤ (s.advance dt).time.elapsed →
      ∃ t q, exec (.confirmDeadline dt a) s = .next t ∧ t.element a = some q
        ∧ q.unlatched = { r.unlatched with part := .signal { g with confirmation := some { k with overdue := true } } }
        ∧ (r.mode = .supervise →
            t.record = ((s.advance dt).elementFault a (s.advance dt).capture
              (.aspectNotShown k.aspect k.tag g.confirmLimit k.command.stamp (fresh r.lastStatus))).record)
        ∧ (r.mode ≠ .supervise → t.record = s.record ∧ t.alarms = s.alarms)
        ∧ othersSame s t a ∧ sameBut (s.advance dt) t [.elements, .record, .alarms])

/-- START_DEADLINE in COMMANDED raises FAILED_TO_START and moves the phase to MOVING. RUN_DEADLINE ends a movement in
COMMANDED or MOVING, and is marked passed in SETTLING. -/
def Obligations.StartAndRunDeadlines : Prop :=
  (∀ (s : State) (dt a : Nat) (r : ElementRecord) (p : PointPart) (m : Movement), s.inReset = false →
      s.element a = some r → r.part = .point p → p.movement = some m → m.phase = .commanded →
      m.startDeadline ≤ (s.advance dt).time.elapsed →
      ∃ t q, exec (.startDeadline dt a) s = .next t ∧ t.element a = some q
        ∧ q.unlatched = { r.unlatched with part := .point { p with movement := some { m with phase := .moving } } }
        ∧ t.record = ((s.advance dt).elementFault a (s.advance dt).capture
            (.failedToStart m.target m.origin p.startLimit m.command.stamp)).record
        ∧ othersSame s t a ∧ sameBut (s.advance dt) t [.elements, .record, .alarms])
  ∧ (∀ (s : State) (dt a : Nat) (r : ElementRecord) (p : PointPart) (m : Movement), s.inReset = false →
      s.element a = some r → r.part = .point p → p.movement = some m → m.runDeadline ≤ (s.advance dt).time.elapsed →
      ∃ t q, exec (.runDeadline dt a) s = .next t ∧ t.element a = some q ∧ othersSame s t a
        ∧ sameBut (s.advance dt) t [.elements, .record, .alarms]
        ∧ (m.phase = .settling →
            q = { r with part := .point { p with movement := some { m with runPassed := true } } }
              ∧ t.record = s.record ∧ t.alarms = s.alarms)
        ∧ (m.phase ≠ .settling →
            q.unlatched = { r.unlatched with part := .point { p with movement := none } }
              ∧ t.record = (((s.advance dt).elementFault a (s.advance dt).capture
                  (.failedToDetect m.target m.origin p.runLimit (fresh r.lastStatus) (m.leave.map (·.stamp)) m.bounces)).note
                  (s.advance dt).capture (.movement (m.entry a .failed none (some .failedToDetect)))).record))

/-- SETTLE_DEADLINE in SETTLING ends the movement COMPLETE and adds its duration to the history of at most four. -/
def Obligations.SettleDeadlineCompletes : Prop :=
  ∀ (s : State) (dt a d : Nat) (r : ElementRecord) (p : PointPart) (m : Movement) (x : Dated), s.inReset = false →
    s.element a = some r → r.part = .point p → p.movement = some m → m.phase = .settling → m.arrival = some x →
    m.settleDeadline = some d → d ≤ (s.advance dt).time.elapsed → p.history.length ≤ 4 →
    let n := (x.capture.elapsed - m.command.capture.elapsed) / 1000
    let h := if p.history.length = 4 then p.history.drop 1 ++ [n] else p.history ++ [n]
    ∃ t q, exec (.settleDeadline dt a) s = .next t ∧ t.element a = some q
      ∧ q.unlatched = { r.unlatched with part := .point { p with movement := none, history := h } }
      ∧ (n ≤ p.warning →
          noted (s.advance dt) t (.movement (m.entry a .complete (some n) none)) false ∧ t.alarms = s.alarms)
      ∧ (p.warning < n →
          let c := (s.advance dt).capture
          let u := ((s.advance dt).note c (.movement (m.entry a .complete (some n) none))).elementFault a c
            (.slowMovement n p.warning)
          (h.length = 4 → (∀ x ∈ h, p.warning < x) → t.record = (u.elementFault a c (.trend h p.warning)).record)
            ∧ ((h.length < 4 ∨ ∃ x ∈ h, x ≤ p.warning) → t.record = u.record))
      ∧ othersSame s t a ∧ sameBut (s.advance dt) t [.elements, .record, .alarms]

/-! ## Timetable checker -/

/-- CHANGEOVER: the LIVE tag drains, the other becomes LIVE and the schedule is removed; a drain end already reached is
taken at once. DRAIN_END: the DRAINING tag becomes STANDBY, and its PENDING entries alone become WITHDRAWN, with
a VERDICT entry of reason DRAIN_END each, in the order of the due queue. -/
def Obligations.ChangeoverAndDrainEnd : Prop :=
  ∀ (s : State) (dt : Nat) (p : Period), s.inReset = false → s.OneLive →
    let c := (s.advance dt).capture
    let drained (e : TimetableEntry) : TimetableEntry :=
      if e.period = p ∧ e.state = .pending then { e with state := .withdrawn } else e
    let withdrawn (t : State) : Prop :=
      (∀ e ∈ t.checker.store, e.period = p → e.state ≠ .pending)
        ∧ t.checker.store.map (·.id) = s.checker.store.map (·.id)
        ∧ (s.TablesOk → t.checker.store = s.checker.store.map drained)
    let n := (s.checker.store.filter (fun e => decide (e.period = p) && decide (e.state = .pending))).length
    let verdicts (u : State) : State :=
      (s.dueQueue.filter (fun e => decide (e.period = p))).foldl
        (fun v e => v.note c (.verdict
          { verdict := .withdrawn, id := some e.id, period := some e.period, train := e.train, element := e.element,
            check := e.check, scheduled := some e.scheduled, event := none, deviation := none, reason := some .drainEnd,
            qualified := decide (s.time.quality ≠ .q4) })) (u.note c (.stateDrainEnd p n))
    (∀ x : Schedule, s.checker.schedule = some x → s.tag p = .live → x.instant.nanos ≤ (s.advance dt).time.centre →
      let e := x.instant.seconds + x.drain
      ∃ t, exec (.changeover dt) s = .next t ∧ t.checker.schedule = none ∧ t.tag p.other = .live
        ∧ ((s.advance dt).time.centre < e * 1000000000 →
            t.tag p = .draining ∧ t.checker.drainEnd = some e ∧ t.checker.store = s.checker.store
              ∧ noted (s.advance dt) t (.stateChangeover p p.other x.instant e) false)
        ∧ (e * 1000000000 ≤ (s.advance dt).time.centre →
            t.tag p = .standby ∧ t.checker.drainEnd = none ∧ withdrawn t
              ∧ t.record = (verdicts ((s.advance dt).note c (.stateChangeover p p.other x.instant e))).record)
        ∧ t.checker.lead = s.checker.lead ∧ t.checker.grace = s.checker.grace ∧ t.checker.loads = s.checker.loads
        ∧ sameBut (s.advance dt) t [.checker, .record])
    ∧ ∀ d, s.tag p = .draining → s.checker.drainEnd = some d → d * 1000000000 ≤ (s.advance dt).time.centre →
      ∃ t, exec (.drainEnd dt) s = .next t ∧ t.tag p = .standby ∧ t.tag p.other = s.tag p.other
        ∧ t.checker.drainEnd = none ∧ withdrawn t
        ∧ t.record = (verdicts (s.advance dt)).record
        ∧ t.checker.schedule = s.checker.schedule ∧ t.checker.lead = s.checker.lead ∧ t.checker.grace = s.checker.grace
        ∧ t.checker.loads = s.checker.loads ∧ sameBut (s.advance dt) t [.checker, .record]

/-- The due queue holds the PENDING entries by expiry and then by id. TIMETABLE_EXPIRY: in RUN at Q3 or better every due
PENDING entry becomes WITHDRAWN, MISSED or UNOBSERVED, with its VERDICT in the order of the due queue, and every other entry
stays; at Q4 or in CONFIG nothing expires. MISSED needs the element OBSERVED since the window start; the contents of such a
verdict. -/
def Obligations.ExpiryTakesDueEntries : Prop :=
  ∀ (s : State) (dt : Nat), s.inReset = false →
    (∀ e : TimetableEntry,
      (s.heardThrough e = true ↔ ∃ r k, s.element e.element = some r ∧ r.coverage = .observed ∧ r.regained = some k
        ∧ ((k.day * 86400000000 + k.micros : Nat) : Int) ≤ e.windowStart * 1000000)
      ∧ ∀ c r q, e.unmatched c r q =
        { verdict := c, id := some e.id, period := some e.period, train := e.train, element := e.element, check := e.check,
          scheduled := some e.scheduled, event := none, deviation := none, reason := r, qualified := q }) ∧
    (s.dueQueue.Perm (s.checker.store.filter (fun e => decide (e.state = .pending)))
      ∧ s.dueQueue.Pairwise (fun e x => e.expiry < x.expiry ∨ (e.expiry = x.expiry ∧ e.id ≤ x.id))) ∧
    (s.service.state = .run → s.time.quality ≠ .q4 →
      let u := s.advance dt
      ∃ t, exec (.timetableExpiry dt) s = .next t
        ∧ t.checker.store.map (·.id) = s.checker.store.map (·.id)
        ∧ (∀ e ∈ t.checker.store, e.state = .pending → u.time.centre < e.expiry * 1000000000)
        ∧ (s.TablesOk → ∀ i e, s.entry i = some e →
          let heard : Prop := ∃ r k, s.element e.element = some r ∧ r.coverage = .observed ∧ r.regained = some k
            ∧ ((k.day * 86400000000 + k.micros : Nat) : Int) ≤ e.windowStart * 1000000
          (e.state ≠ .pending ∨ u.time.centre < e.expiry * 1000000000 → t.entry i = some e)
          ∧ (e.state = .pending → e.expiry * 1000000000 ≤ u.time.centre →
              (s.tag e.period = .standby → t.entry i = some { e with state := .withdrawn })
              ∧ (s.tag e.period ≠ .standby → heard → t.entry i = some { e with state := .missed })
              ∧ (s.tag e.period ≠ .standby → ¬ heard → t.entry i = some { e with state := .unobserved })))
        ∧ t.record =
            ((u.dueQueue.filter (fun e => decide (e.expiry * 1000000000 ≤ u.time.centre))).foldl
              (fun x e => x.verdict u.capture
                (if s.tag e.period = .standby then e.unmatched .withdrawn (some .periodStandby) true
                else e.unmatched (if s.heardThrough e then .missed else .unobserved) none true)) u).record
        ∧ sameBut u t [.checker, .record, .alarms, .elements] ∧ sameElements s t ∧ recordGrows s t)
    ∧ ((s.service.state = .config ∨ s.time.quality = .q4) →
      exec (.timetableExpiry dt) s = .next (s.advance dt))

/-- A verdict is the raise of its class on the entry's element; WITHDRAWN is a routine entry outside the action table. A train
event: of the eligible entries the earliest scheduled, then the one of lowest id, is matched, with its deviation,
class, new standing and VERDICT entry; with none eligible the verdict is UNPLANNED and no timetable entry changes. That the
verdict's capture is rebuilt from the event's stamp is the model's choice (log 30). -/
def Obligations.TrainEventVerdict : Prop :=
  (∀ (s : State) (c : Capture) (v : VerdictEntry),
    let raises (k : ActionKind) : Prop :=
      s.verdict c v
        = s.raise { kind := k, target := .element v.element, capture := c, body := .verdict v, test := false,
                    qualified := v.qualified }
    (v.verdict = .early → raises .early) ∧ (v.verdict = .onTime → raises .onTime) ∧ (v.verdict = .late → raises .late)
      ∧ (v.verdict = .severe → raises .severe) ∧ (v.verdict = .unplanned → raises .unplanned)
      ∧ (v.verdict = .missed → raises .missed) ∧ (v.verdict = .unobserved → raises .unobserved)
      ∧ (v.verdict = .withdrawn → s.verdict c v = s.note c (.verdict v) false))
  ∧ (∀ (k : Stamp) (n : Nat), k.asCapture n = { centre := (k.day * 86400000000 + k.micros) * 1000, elapsed := n })
  ∧ ∀ (s : State) (v : TrainEvent),
    let micros := v.stamp.day * 86400000000 + v.stamp.micros
    let scheduled (e : TimetableEntry) : Nat := e.scheduled.day * 86400 + e.scheduled.second
    let eligible (e : TimetableEntry) : Prop :=
      e.state = .pending ∧ (s.tag e.period = .live ∨ s.tag e.period = .draining) ∧ e.train = v.train
        ∧ e.element = v.element ∧ e.check = v.check ∧ e.windowStart * 1000000 ≤ (micros : Int)
        ∧ micros ≤ e.expiry * 1000000
    let t := s.trainEvent v
    (∀ e ∈ s.checker.store, eligible e →
      (∀ x ∈ s.checker.store, eligible x → x ≠ e →
        scheduled e < scheduled x ∨ (scheduled e = scheduled x ∧ e.id < x.id)) →
      let d := max (-32767) (min 32767 (Int.tdiv ((micros : Int) - (scheduled e : Int) * 1000000) 1000000))
      let verdict : VerdictClass :=
        if d < -(e.early : Int) then .early else if d ≤ e.late then .onTime else if d ≤ e.severe then .late else .severe
      (∀ x ∈ t.checker.store, x.id = e.id → x.state = .matched ∧ x.matched = some (v.stamp, d))
      ∧ (s.TablesOk → t.entry e.id = some { e with state := .matched, matched := some (v.stamp, d) }
          ∧ ∀ i, i ≠ e.id → t.entry i = s.entry i)
      ∧ (∀ x ∈ t.dueQueue, x.id ≠ e.id)
      ∧ t.record =
          (s.verdict (v.stamp.asCapture s.time.elapsed)
            { verdict := verdict, id := some e.id, period := some e.period, train := e.train, element := e.element,
              check := e.check, scheduled := some e.scheduled, event := some v.stamp, deviation := some d, reason := none,
              qualified := decide (v.stamp.quality ≠ .q4) }).record)
    ∧ ((∀ e ∈ s.checker.store, ¬ eligible e) →
      t = s.raise
        { kind := .unplanned, target := .element v.element, capture := v.stamp.asCapture s.time.elapsed,
          body := .verdict
            { verdict := .unplanned, id := none, period := none, train := v.train, element := v.element, check := v.check,
              scheduled := none, event := some v.stamp, deviation := none, reason := none,
              qualified := decide (v.stamp.quality ≠ .q4) },
          qualified := decide (v.stamp.quality ≠ .q4) }
        ∧ t.checker = s.checker)
    ∧ sameElements s t ∧ sameBut s t [.checker, .record, .alarms, .elements]

/-! ## Clock lines -/

/-- PULSE_START: under the conditions of the pulse rule a line starts a pulse of the opposite polarity; an overcurrent that
is active then cuts it at once, with LINE_SHORT, RETRY and, at the third, its escalation. CURRENT_PRESENT sets the
current-seen flag of a pulse in flight; OVERCURRENT without a pulse or going inactive moves the pin alone; RETRY_DEADLINE
returns the line to RUNNING. -/
def Obligations.PulseStartsAndSenseInputs : Prop :=
  (∀ (s : State) (dt : Nat) (l : LineId) (n : Nat) (p : Polarity), s.inReset = false → (s.line l).state = .running →
      s.time.timeSet = true → (s.line l).pulse = none →
      (∀ x, (s.line l).lastStart = some x → x + (s.line l).fast * 1000 ≤ (s.advance dt).time.elapsed) →
      (s.line l).shown = some n → (s.line l).polarity = some p →
      let now := (s.advance dt).time.elapsed
      let step := (s.line l).step
      let seconds : Int :=
        (((s.advance dt).time.centre % 86400000000000 / 1000000000 : Nat) + 60 * s.time.localOffset) % 86400
      let target := seconds.toNat % 43200 / step
      let d := (target + 43200 / step - n) % (43200 / step)
      1 ≤ d → d + (s.line l).wait * 60 / step + 1 ≤ 43200 / step →
      ((s.line l).overCurrent = true →
        let k := (s.line l).shortCount + 1
        let cut : Line :=
          { s.line l with bridge := p.opposite, drive := false, pulse := none, lastStart := some now, shortCount := k }
        let u := (s.advance dt).raise
          { kind := .lineShort, target := .line l, capture := (s.advance dt).capture,
            body := .lineShort l (some n) p.opposite 0 k }
        ∃ t, exec (.pulseStart dt l) s = .next t
          ∧ (k < 3 → t.record = u.record ∧ t.alarms = u.alarms
              ∧ t.line l = { cut with state := .retry, retryDeadline := some (now + (s.line l).retry * 1000000) })
          ∧ (3 ≤ k → t.line l = { cut with state := .latchedOff }
              ∧ t.record = (u.attempt
                  { capture := (s.advance dt).capture, body := .lineEscalated l (some n) k (s.line l).retry, alarm := true,
                    action := none, latch := (u.latchOf (.line l)).isNone, test := false }).record
              ∧ (t.latchOf (.line l)).isSome = true)
          ∧ (∀ j, j ≠ l → t.line j = s.line j) ∧ sameBut (s.advance dt) t [.line1, .line2, .record, .alarms])
      ∧ ((s.line l).overCurrent = false →
      exec (.pulseStart dt l) s = .next
        ((s.advance dt).setLine l { s.line l with
          bridge := p.opposite, drive := true, lastStart := some (s.advance dt).time.elapsed,
          pulse := some { polarity := p.opposite, start := (s.advance dt).time.elapsed,
                          deadline := (s.advance dt).time.elapsed + (s.line l).width * 1000,
                          currentSeen := (s.line l).current } })))
  ∧ (∀ (s : State) (dt : Nat) (l : LineId), s.inReset = false →
      (∀ p, (s.line l).pulse = some p →
        exec (.currentPresent dt l true) s = .next
            ((s.advance dt).setLine l { s.line l with current := true, pulse := some { p with currentSeen := true } })
          ∧ exec (.currentPresent dt l false) s = .next ((s.advance dt).setLine l { s.line l with current := false })
          ∧ exec (.overcurrent dt l false) s = .next ((s.advance dt).setLine l { s.line l with overCurrent := false }))
      ∧ ((s.line l).pulse = none → ∀ b,
        exec (.currentPresent dt l b) s = .next ((s.advance dt).setLine l { s.line l with current := b })
          ∧ exec (.overcurrent dt l b) s = .next ((s.advance dt).setLine l { s.line l with overCurrent := b }))
      ∧ ∀ d, (s.line l).retryDeadline = some d → d ≤ (s.advance dt).time.elapsed →
        exec (.retryDeadline dt l) s = .next
          ((s.advance dt).setLine l { s.line l with state := .running, retryDeadline := none }))

/-- PULSE_END: a pulse that saw current is delivered; one that saw none leaves S and the polarity, and raises LINE_OPEN
unless that was reported since the last delivered pulse. -/
def Obligations.PulseEnds : Prop :=
  ∀ (s : State) (dt : Nat) (l : LineId) (p : Pulse), s.inReset = false → (s.line l).pulse = some p →
    p.deadline ≤ (s.advance dt).time.elapsed →
    let seconds : Int :=
      (((s.advance dt).time.centre % 86400000000000 / 1000000000 : Nat) + 60 * s.time.localOffset) % 86400
    (p.currentSeen = true → exec (.pulseEnd dt l) s = .next
      ((s.advance dt).setLine l { s.line l with
        drive := false, pulse := none, shown := (s.line l).shown.map (fun n => (n + 1) % (43200 / (s.line l).step)),
        polarity := some p.polarity, shortCount := 0, openReported := false }))
    ∧ (p.currentSeen = false → ∃ t, exec (.pulseEnd dt l) s = .next t
        ∧ t.line l = { s.line l with drive := false, pulse := none, openReported := true }
        ∧ (∀ k, k ≠ l → t.line k = s.line k)
        ∧ ((s.line l).openReported = true → t.record = s.record ∧ t.alarms = s.alarms)
        ∧ ((s.line l).openReported = false →
            raised (s.advance dt) t
              { kind := .lineOpen, target := .line l, capture := (s.advance dt).capture,
                body := .lineOpen l (s.line l).shown (seconds.toNat % 43200 / (s.line l).step) p.polarity })
        ∧ sameBut (s.advance dt) t [.line1, .line2, .record, .alarms])

/-- OVERCURRENT during a pulse cuts it, counts a short, raises LINE_SHORT and puts the line in RETRY, or at the third in
LATCHED_OFF with its ESCALATED entry and its latch held. That the elapsed time in the SHORT entry is truncated to whole ms is
the model's choice (log 51). -/
def Obligations.OvercurrentCutsPulse : Prop :=
  ∀ (s : State) (dt : Nat) (l : LineId) (p : Pulse), s.inReset = false → (s.line l).pulse = some p →
    let now := (s.advance dt).time.elapsed
    let n := (s.line l).shortCount + 1
    let u := (s.advance dt).raise
      { kind := .lineShort, target := .line l, capture := (s.advance dt).capture,
        body := .lineShort l (s.line l).shown p.polarity ((now - p.start) / 1000) n }
    ∃ t, exec (.overcurrent dt l true) s = .next t
      ∧ (n < 3 → t.record = u.record ∧ t.alarms = u.alarms
          ∧ t.line l = { s.line l with drive := false, pulse := none, shortCount := n, overCurrent := true, state := .retry,
                                       retryDeadline := some (now + (s.line l).retry * 1000000) })
      ∧ (3 ≤ n →
          t.record = (u.attempt
            { capture := (s.advance dt).capture, body := .lineEscalated l (s.line l).shown n (s.line l).retry, alarm := true,
              action := none, latch := (u.latchOf (.line l)).isNone, test := false }).record
          ∧ t.latchOf (.line l) =
              (match u.latchOf (.line l) with
                | some f => some f
                | none => some { kind := .escalated, stamp := (s.advance dt).stampOf (s.advance dt).capture })
          ∧ (u.latchOf (.line l) = none → t.alarms.output = true)
          ∧ t.line l = { s.line l with drive := false, pulse := none, shortCount := n, overCurrent := true,
                                       state := .latchedOff })
      ∧ (∀ k, k ≠ l → t.line k = s.line k ∧ t.latchOf (.line k) = s.latchOf (.line k))
      ∧ sameBut (s.advance dt) t [.line1, .line2, .record, .alarms] ∧ recordGrows s t

/-! ## Service responder -/

/-- Every service row, READ_STATUS to RESTART: in a processed frame, addressed to the part and pending, it is answered by its
result, with data for a grant or the NOT_FOUND of a search (the model's reading, log 41), and waits in its frame; otherwise,
and beyond the telegram count or the 64th telegram, it passes as it arrived. A row's request travels with a reply area of
zeros (log 9), and its item keeps the count of loads (log 52). -/
def Obligations.RequestIsAnsweredAsItPasses : Prop :=
  ∀ (i : Instr) (x : Telegram) (q : Request) (s : State) (f : Frame), i.request = some (x, q) → i.wellFormed = true →
    s.inReset = false → (s.port x.port).frame = some f → f.telegram = none →
    let within : Prop := field f.received 12 2 = 0x9A42 ∧ f.parsed < field f.received 16 1 ∧ f.parsed < 64
    (¬ within → exec i s = .next ((s.advance x.dt).setPort x.port
      { s.port x.port with
        frame := some { f with received := f.received ++ serviceOctets x q, sent := f.sent ++ serviceOctets x q } }))
    ∧ (within → ∃ t g o, exec i s = .next t ∧ (t.port x.port).frame = some g ∧ g.telegram = some o ∧ g.parsed = f.parsed + 1
      ∧ g.items = f.items ∧ o.received = serviceOctets x q ∧ o.capture = (s.advance x.dt).capture
      ∧ (f.processed = true → x.address.toNat = s.service.stationAddress → x.result = 0x00 →
          let n := 7 + (parameterOctets q).length
          ∃ r y, (r, y) = (s.advance x.dt).answer f (some q) ∧ o.inserted = true
            ∧ o.content = some (.service (codeOf q) (some q) r y s.checker.loads)
            ∧ o.sent.take n = (serviceOctets x q).take n ∧ o.sent[n]? = some (BitVec.ofNat 8 r.code)
            ∧ (∀ b, (r = .done ∨ r = .doneClamped ∨ r = .notFound) → (s.advance x.dt).reply q = some b →
                o.sent.drop (n + 1) = b)
            ∧ ((s.advance x.dt).reply q = none ∨ ¬(r = .done ∨ r = .doneClamped ∨ r = .notFound) →
                o.sent.drop (n + 1) = (serviceOctets x q).drop (n + 1)))
      ∧ ((f.processed = false ∨ x.address.toNat ≠ s.service.stationAddress ∨ x.result ≠ 0x00) →
          o.inserted = false ∧ o.sent = serviceOctets x q ∧ o.content = none)
      ∧ t.port x.port.other = s.port x.port.other ∧ sameBut (s.advance x.dt) t [.portA, .portB])

/-- The replies of the four reads: their areas, the entries that READ RECORD returns, the record and the entry that a search
finds, and every field of READ STATUS, READ ELEMENT, READ ENTRY and of an entry's contents, in the order of the rule that lists
it. The model's are: the codes that follow their list (log 22), IDLE and ESCALATED (log 23), each field's width and the order
where a list leaves it open (log 25), the count that comes with NOT_FOUND (log 41), the held values of READ ELEMENT (log 47),
the number of a fault kind inside contents (log 48), a drain end past day 65535 (log 49), a short duration history (log 55), an
absent train tag (log 56), the causes of a state change (log 57), the target of an ALARM_ACK entry (log 59), and an unknown
shown position or polarity with the codes of the polarities (log 60). -/
def Obligations.ReadRepliesAreLaidOut : Prop :=
  (∀ n v : Nat, (octets n v).length = n
    ∧ ∀ (k : Nat) (b : Byte), (octets n v)[k]? = some b → b.toNat = v / 256 ^ (n - 1 - k) % 256)
  ∧ ∀ s : State,
    let none8 (n : Nat) : List Byte := List.replicate n 0xFF
    let b (n : Nat) : List Byte := octets 1 n
    let opt (n : Nat) (v : Option Nat) : List Byte := match v with | none => none8 n | some x => octets n x
    let signed (n : Nat) (v : Int) : List Byte := octets n (v % (256 ^ n : Nat)).toNat
    let flag (x : Bool) : List Byte := [if x then 0x01 else 0x00]
    let stamp (x : Stamp) : List Byte :=
      octets 2 x.day ++ octets 5 x.micros ++ octets 2 x.epoch ++ b (placeIn [.q1, .q2, .q3, .q4] x.quality)
    let optStamp (v : Option Stamp) : List Byte := match v with | none => none8 10 | some x => stamp x
    let instant (x : Instant) : List Byte := octets 2 x.day ++ octets 3 x.second
    let optInstant (v : Option Instant) : List Byte := match v with | none => none8 5 | some x => instant x
    let seconds (n : Nat) : List Byte := octets 2 (n / 86400) ++ octets 3 (n % 86400)
    let centre (n : Nat) : List Byte := octets 2 (n / 86400000000000) ++ octets 6 (n % 86400000000000)
    let tag (x : TrainTag) : List Byte := [x.c0, x.c1, x.c2, x.c3]
    let optTag (v : Option TrainTag) : List Byte := match v with | none => none8 4 | some x => tag x
    let source (x : Source) : Nat := placeIn [.ref1, .ref2, .ring] x
    let port (x : PortId) : Nat := placeIn [.a, .b] x
    let line (x : LineId) : Nat := placeIn [.one, .two] x
    let period (x : Period) : Nat := placeIn [.a, .b] x
    let check (x : CheckKind) : Nat := placeIn [.cleared, .passed] x
    let opState (x : OpState) : Nat := placeIn [.config, .run] x
    let loop (x : Loop) : Nat := placeIn [.isOpen, .isClosed] x
    let loopMode (x : LoopMode) : Nat := placeIn [.auto, .autoClose, .alwaysOpen, .alwaysClosed] x
    let lineState (x : LineState) : Nat := placeIn [.hold, .running, .retry, .latchedOff] x
    let polarity (x : Polarity) : Nat := placeIn [.positive, .negative] x
    let quality (x : Quality) : Nat := placeIn [.q1, .q2, .q3, .q4] x
    let elementKind (x : ElementKind) : Nat := placeIn [.signal, .point] x
    let target (x : Target) : Nat := placeIn [.normal, .reverse] x
    let detected (x : Detected) : Nat := match x with | .none => 0 | .normal => 1 | .reverse => 2
    let action (x : Action) : Nat := match x with | .off => 0 | .record => 1 | .alert => 2 | .latch => 3
    let kinds : List ActionKind :=
      [.failedToStart, .failedToDetect, .detectionLost, .uncommandedMove, .aspectNotShown, .qualityQ4, .chatter, .trend,
       .signalDropped, .lampDark, .coverageLost, .severe, .missed, .qualityQ3, .holdover, .lineOpen, .lineShort,
       .portLinkDown, .portSilent, .slowMovement, .early, .onTime, .late, .unobserved, .unplanned, .sourceChange, .jabber]
    let latchKind (x : LatchKind) : Nat := match x with | .kind k => placeIn kinds k | .escalated => 28
    let latched (v : Option Latched) : List Byte :=
      match v with | none => none8 11 | some x => b (latchKind x.kind) ++ stamp x.stamp
    let latchTarget (x : LatchTarget) : List Byte :=
      match x with
      | .element a => [0x01] ++ octets 2 a | .time => [0x02, 0xFF, 0xFF] | .line .one => [0x03, 0xFF, 0xFF]
      | .line .two => [0x04, 0xFF, 0xFF] | .port .a => [0x05, 0xFF, 0xFF] | .port .b => [0x06, 0xFF, 0xFF]
    let value (x : Value) : List Byte :=
      match x with
      | .target k => b (target k) | .aspect a none => b a | .aspect a (some g) => b a ++ tag g
      | .detected d => b (detected d) | .shown a l => b a ++ b (placeIn [.proven, .dark] l)
    let padded (n : Nat) (v : Option Value) : List Byte :=
      match v with | none => none8 n | some x => (value x ++ List.replicate n 0x00).take n
    let deviation (v : Option Int) : List Byte := match v with | none => [0x80, 0x00] | some d => signed 2 d
    let moved (x y : Nat) (e : Int) (k : Source) (n : Nat) : List Byte :=
      centre x ++ centre y ++ signed 8 e ++ b (source k) ++ octets 2 n
    let fault (d : FaultDetail) : Nat × ActionKind × List Byte :=
      match d with
      | .failedToStart k o l c => (1, .failedToStart, b (target k) ++ opt 1 (o.map detected) ++ octets 2 l ++ stamp c)
      | .failedToDetect k o l v x n =>
        (2, .failedToDetect, b (target k) ++ opt 1 (o.map detected) ++ b l ++ padded 1 v ++ optStamp x ++ b n)
      | .chatter k n l => (3, .chatter, b (target k) ++ b n ++ b l)
      | .slowMovement n w => (4, .slowMovement, octets 2 n ++ octets 2 w)
      | .trend l w => (5, .trend, l.flatMap (octets 2) ++ octets 2 w)
      | .detectionLost v => (6, .detectionLost, padded 1 (some v))
      | .uncommandedMove k d v => (7, .uncommandedMove, b (target k) ++ b (detected d) ++ padded 1 v)
      | .aspectNotShown a g l c v => (8, .aspectNotShown, b a ++ optTag g ++ octets 2 l ++ stamp c ++ padded 2 v)
      | .signalDropped p k g => (9, .signalDropped, b p ++ b k ++ optTag g)
      | .lampDark a k => (10, .lampDark, b a ++ opt 1 k)
      | .coverageLost l x => (11, .coverageLost, octets 2 l ++ optStamp x)
    let contents (x : EntryBody) : Nat × Nat × List Byte :=
      match x with
      | .element a k g n old new p _ =>
        (1, 0, octets 2 a ++ b (elementKind k) ++ b (placeIn [.command, .status] g) ++ b n ++ padded 5 old
          ++ padded 5 (some new) ++ b (port p))
      | .movement m =>
        (2, 0, octets 2 m.element ++ b (placeIn [.complete, .failed, .reversed, .abandoned, .noMove] m.outcome)
          ++ b (target m.target) ++ opt 1 (m.origin.map detected) ++ stamp m.command ++ optStamp m.leave
          ++ optStamp m.arrival ++ opt 2 m.duration ++ b m.bounces ++ opt 1 (m.fault.map (placeIn kinds)))
      | .fault a d => (3, (fault d).1, octets 2 a ++ b (placeIn kinds (fault d).2.1) ++ (fault d).2.2)
      | .verdict v =>
        let k := placeIn [.early, .onTime, .late, .severe, .unplanned, .missed, .unobserved, .withdrawn] v.verdict
        (4, k, b k ++ opt 2 v.id ++ opt 1 (v.period.map period) ++ tag v.train ++ octets 2 v.element ++ b (check v.check)
          ++ optInstant v.scheduled ++ optStamp v.event ++ deviation v.deviation
          ++ opt 1 (v.reason.map (placeIn [.requested, .drainEnd, .periodStandby])) ++ flag v.qualified)
      | .timeSet x y e k n => (5, 1, moved x y e k n)
      | .timeStep x y e k n => (5, 2, moved x y e k n)
      | .timeQuality o n u => (5, 3, b (quality o) ++ b (quality n) ++ octets 4 u)
      | .timeSourceChange o n r =>
        (5, 4, opt 1 (o.map source) ++ opt 1 (n.map source) ++ b (placeIn [.qualified, .lost, .revert, .configured] r))
      | .timeHoldover k u i => (5, 5, b (source k) ++ octets 4 u ++ signed 3 i)
      | .timeOffsetChange o n i => (5, 6, signed 2 o ++ signed 2 n ++ optInstant i)
      | .portLinkDown p n => (6, 1, b (port p) ++ octets 2 n)
      | .portLinkUp p => (6, 2, b (port p))
      | .portSilent p l => (6, 3, b (port p) ++ octets 2 l)
      | .portActive p => (6, 4, b (port p))
      | .portJabber p => (6, 5, b (port p))
      | .portLoop p k m => (6, 6, b (port p) ++ b (loop k) ++ b (loopMode m))
      | .lineOpen l n k p => (7, 1, b (line l) ++ opt 2 n ++ octets 2 k ++ b (polarity p))
      | .lineShort l n p e k => (7, 2, b (line l) ++ opt 2 n ++ b (polarity p) ++ octets 2 e ++ b k)
      | .lineEscalated l n k r => (7, 3, b (line l) ++ opt 2 n ++ b k ++ octets 2 r)
      | .lineSet l n n' p p' e k x =>
        (7, 4, b (line l) ++ opt 2 n ++ opt 1 (p.map polarity) ++ opt 2 n' ++ opt 1 (p'.map polarity) ++ flag e ++ b k
          ++ b (lineState x))
      | .statePowerOn a => (8, 1, octets 2 a)
      | .stateRestart o => (8, 2, b (opState o))
      | .stateChange o n c => (8, 3, b (opState o) ++ b (opState n) ++ b (placeIn [.request, .restart] c))
      | .stateChangeover p q i e => (8, 4, b (period p) ++ b (period q) ++ instant i ++ seconds e)
      | .stateDrainEnd p n => (8, 5, b (period p) ++ octets 2 n)
      | .stateAlarmAck g f => (8, 6, latchTarget g ++ b (latchKind f.kind) ++ stamp f.stamp)
      | .gap k => (9, 0, stamp k.first ++ stamp k.last ++ octets 2 k.routine ++ octets 2 k.alarm)
    let held (v : Option Held) : List Byte := match v with | none => none8 6 | some h => padded 5 (some h.value) ++ flag h.stale
    let element (r : ElementRecord) : List Byte :=
      octets 2 r.address ++ b (elementKind r.kind) ++ b (placeIn [.ignore, .observe, .supervise, .test] r.mode)
        ++ (match r.part with | .signal g => flag g.timetablePoint | .point _ => none8 1) ++ octets 2 r.silenceLimit
        ++ (match r.part with
          | .signal g => none8 8 ++ octets 2 g.confirmLimit
          | .point p => octets 2 p.startLimit ++ b p.runLimit ++ octets 2 p.settleTime ++ b p.maxBounces
              ++ octets 2 p.warning ++ none8 2)
        ++ held r.lastCommand ++ held r.lastStatus ++ opt 1 r.commandSequence ++ opt 1 r.statusSequence
        ++ b (placeIn [.never, .observed, .lost] r.coverage) ++ optStamp r.regained ++ latched r.latched
        ++ (match r.part with
          | .signal _ => none8 11
          | .point p =>
            (match p.movement with
              | none => [0x01, 0xFF, 0xFF]
              | some m => b (placeIn [.commanded, .moving, .settling] m.phase + 1) ++ b (target m.target) ++ b m.bounces)
              ++ p.history.flatMap (octets 2) ++ none8 (8 - 2 * p.history.length))
        ++ (match r.part with
          | .point _ => none8 10
          | .signal g =>
            optTag g.clearedFor
              ++ match g.confirmation with | none => none8 6 | some k => b k.aspect ++ optTag k.tag ++ flag k.overdue)
        ++ octets 2 r.references
    let entry (e : TimetableEntry) : List Byte :=
      octets 2 e.id ++ b (period e.period) ++ tag e.train ++ octets 2 e.element ++ b (check e.check) ++ instant e.scheduled
        ++ octets 2 e.early ++ octets 2 e.late ++ octets 2 e.severe ++ signed 5 e.windowStart ++ octets 5 e.expiry
        ++ b (placeIn [.pending, .matched, .missed, .unobserved, .withdrawn] e.state)
        ++ match e.matched with | none => none8 10 ++ [0x80, 0x00] | some m => stamp m.1 ++ signed 2 m.2
    let sourceStatus (x : Source) : List Byte :=
      flag (s.time.config.source x).enable ++ b (placeIn [.absent, .qualifying, .qualified, .disqualified] (s.source x).state)
        ++ b (s.source x).good ++ b (s.source x).bad
    let counter (w : Wired) : List Byte :=
      opt 1 (match (s.wired w).message with | none => none | some h => h.contents.map (fun c => c.counter))
    let portStatus (x : Port) : List Byte :=
      b (if x.up then 2 else 1) ++ b (loopMode x.mode) ++ b (loop x.loop) ++ b (placeIn [.active, .silent] x.activity)
        ++ octets 2 x.badFrames
    let lineStatus (x : Line) : List Byte :=
      let local_ : Int := (s.time.centre % 86400000000000 / 1000000000 : Nat) + 60 * s.time.localOffset
      b (lineState x.state) ++ flag x.enable ++ b x.step ++ opt 2 x.shown ++ opt 1 (x.polarity.map polarity)
        ++ (if x.shown.isSome = true ∧ s.time.timeSet = true then octets 2 ((local_ % 86400).toNat % 43200 / x.step)
          else none8 2)
        ++ b x.shortCount ++ flag x.pulse.isSome
    (∀ q, isRead q = false → s.reply q = none)
    ∧ (∀ f : Word32, ∃ l o, s.reply (.readRecord f) = some o ∧ o.length = 268
        ∧ (∀ u e v, s.record.entries = u ++ e :: v → e.sequence = f → (∀ x ∈ u, x.sequence ≠ f) → l = (e :: v).take 4)
        ∧ ((∀ x ∈ s.record.entries, x.sequence ≠ f) → ∀ e v, s.record.entries = e :: v →
            (1 ≤ (e.sequence - f).toNat ∧ (e.sequence - f).toNat ≤ 2147483648 → l = s.record.entries.take 4)
            ∧ (¬ (1 ≤ (e.sequence - f).toNat ∧ (e.sequence - f).toNat ≤ 2147483648) → l = []))
        ∧ (s.record.entries = [] → l = [])
        ∧ o.take 12 = b l.length ++ [0x00]
            ++ (match l with | [] => none8 4 | e :: _ => octets 4 e.sequence.toNat)
            ++ octets 4 s.record.next.toNat ++ octets 2 s.record.entries.length
        ∧ (∀ (k : Nat) e, l[k]? = some e → (o.drop (12 + 64 * k)).take 64 = e.octets)
        ∧ ∀ x ∈ o.drop (12 + 64 * l.length), x = 0x00)
    ∧ (∀ e : Entry, e.octets =
        octets 4 e.sequence.toNat ++ b (contents e.body).1 ++ b (contents e.body).2.1 ++ stamp e.stamp
          ++ b (e.adjusted.toNat + 2 * e.alarm.toNat + 4 * e.latch.toNat + 8 * e.test.toNat)
          ++ b (match e.action with | none => 0 | some a => action a)
          ++ ((contents e.body).2.2 ++ List.replicate 46 0x00).take 46)
    ∧ (s.TablesOk → ∀ a k : Nat, k = 1 ∨ k = 2 →
        let found (r : ElementRecord) : Prop :=
          r ∈ s.elements ∧ (k = 1 → r.address = a)
            ∧ (k = 2 → a ≤ r.address ∧ ∀ x ∈ s.elements, a ≤ x.address → r.address ≤ x.address)
        (∀ r, found r → (∀ p, r.part = .point p → p.history.length ≤ 4) →
          s.reply (.readElement a k) = some (octets 2 s.elements.length ++ element r ++ List.replicate 18 0x00))
        ∧ ((∀ r, ¬ found r) →
            s.reply (.readElement a k) = some (octets 2 s.elements.length ++ List.replicate 94 0x00)))
    ∧ (s.TablesOk → ∀ i k : Nat, k = 1 ∨ k = 2 →
        let found (e : TimetableEntry) : Prop :=
          e ∈ s.checker.store ∧ (k = 1 → e.id = i)
            ∧ (k = 2 → i ≤ e.id ∧ ∀ x ∈ s.checker.store, i ≤ x.id → e.id ≤ x.id)
        (∀ e, found e →
          s.reply (.readEntry i k) = some (octets 2 s.checker.store.length ++ entry e ++ [0x00, 0x00]))
        ∧ ((∀ e, ¬ found e) →
            s.reply (.readEntry i k) = some (octets 2 s.checker.store.length ++ List.replicate 46 0x00)))
    ∧ (s.AlarmOk →
        s.reply .readStatus = some
          (octets 2 s.service.stationAddress ++ b (opState s.service.state) ++ flag s.service.runCondition
            ++ (match s.service.error with
              | none => none8 13
              | some e =>
                [e.code] ++ b (placeIn [.done, .doneClamped, .refusedState, .refusedArgument, .full, .notFound, .referenced,
                    .idInUse, .tooLate, .notATimetablePoint, .badTolerance, .periodNotLoadable, .superseded] e.result)
                  ++ b (match e.reason with | none => 0 | some .noElements => 1 | some .timeUnset => 2) ++ stamp e.stamp)
          ++ flag s.time.timeSet ++ b (placeIn [.free, .fine, .slew, .holdover] s.time.mode) ++ b (quality s.time.quality)
            ++ octets 4 s.time.u ++ octets 2 s.time.epoch ++ flag s.time.held
            ++ octets 2 (s.time.centre / 86400000000000) ++ octets 5 (s.time.centre % 86400000000000 / 1000)
            ++ octets 2 s.time.epoch ++ b (quality s.time.quality) ++ signed 2 s.time.localOffset
            ++ (match s.time.pendingOffset with
              | none => [0x80, 0x00] ++ none8 5 | some x => signed 2 x.offset ++ instant x.instant)
          ++ opt 1 (s.refs.selected.map source) ++ sourceStatus .ref1 ++ sourceStatus .ref2 ++ sourceStatus .ring
            ++ counter .ref1 ++ counter .ref2
          ++ octets 2 s.record.entries.length
            ++ (match s.record.entries with | [] => none8 4 | e :: _ => octets 4 e.sequence.toNat)
            ++ (match s.record.entries.getLast? with | none => none8 4 | some e => octets 4 e.sequence.toNat)
            ++ octets 2 (s.record.entries.filter (fun e => e.alarm)).length ++ flag s.record.tally.isSome
          ++ flag s.alarms.output ++ latched s.alarms.time ++ latched s.alarms.line1 ++ latched s.alarms.line2
            ++ latched s.alarms.portA ++ latched s.alarms.portB
            ++ octets 2 (s.elements.filter (fun r => r.latched.isSome)).length
            ++ kinds.flatMap (fun k => b (action (s.actionOf k)))
          ++ portStatus s.portA ++ portStatus s.portB ++ lineStatus s.line1 ++ lineStatus s.line2
          ++ octets 2 s.elements.length ++ octets 2 s.checker.store.length
            ++ b (placeIn [.live, .draining, .standby] s.checker.tagA)
            ++ b (placeIn [.live, .draining, .standby] s.checker.tagB)
            ++ (match s.checker.schedule with | none => none8 7 | some x => instant x.instant ++ octets 2 x.drain)
            ++ (match s.checker.drainEnd with | none => none8 5 | some n => seconds n)
            ++ octets 2 s.checker.lead ++ octets 2 s.checker.grace
          ++ List.replicate 11 0x00))

/-- What a request is judged against (the model's choice, log 32; for ACKNOWLEDGE RECORD read from R156, log 31), and the
judgement of the requests on settings: SET TIME CONFIGURATION, SET LOCAL OFFSET, SET RING PORT, SET TIMETABLE SETTINGS, SET
CHANGEOVER, SET ACTIONS, SET CLOCK LINE, REQUEST STATE and SET RUN CONDITION; READ STATUS, READ RECORD and ACKNOWLEDGE ERROR
INDICATION are granted. A flag that is no flag is refused (log 24). The codes of the polarities are the model's (log 60). Codes
that chapter 12 does not write out, those of REQUEST STATE, the ports and the loop modes, are read from R189 (log 22). -/
def Obligations.SettingsRequestsAreJudged : Prop :=
  ∀ s : State,
    (∀ q, isRead q = true ↔
      (q = .readStatus ∨ (∃ a k, q = .readElement a k) ∨ (∃ i k, q = .readEntry i k) ∨ ∃ n, q = .readRecord n))
    ∧ (∀ q, isAcknowledge q = true ↔ ∃ n, q = .acknowledgeRecord n)
    ∧ (∀ f : Frame,
        (f.superseding = true ↔
          ∃ i ∈ f.items, ∃ c r y j, i.content = .service c (some .restart) r y j ∧ (r = .done ∨ r = .doneClamped))
        ∧ f.grantedRequests = f.items.filterMap (fun i =>
            match i.content with
            | .service _ (some q) .done _ _ => some q
            | .service _ (some q) .doneClamped _ _ => some q
            | _ => none))
    ∧ (∀ (f : Frame) (q : Request), f.superseding = false →
      s.answer f (some q) =
        (if isRead q then s.judge q
        else if isAcknowledge q then ((f.grantedRequests.filter isAcknowledge).foldl State.applyRequest s).judge q
        else (f.grantedRequests.foldl State.applyRequest s).judge q))
    ∧ s.judge .readStatus = (.done, none) ∧ (∀ f, s.judge (.readRecord f) = (.done, none))
    ∧ s.judge .acknowledgeErrorIndication = (.done, none)
    ∧ (∀ p : TimeConfigParams,
        let refused : Prop :=
          (∃ v ∈ [p.stepPermit, p.stepInRun, p.ref1.enable, p.ref2.enable, p.ring.enable, p.masterEnable], 2 ≤ v)
            ∨ min 100000 p.fineExit ≤ max 10 (min 50000 p.fineEntry) ∨ max 2 (min 16 p.ki) ≤ max 1 (min 8 p.kp)
            ∨ p.l1 ∉ [100, 250, 500, 1000] ∨ p.l2 ∉ [2, 5, 10, 20] ∨ p.l3 ∉ [50, 100, 200, 500]
            ∨ (∃ v ∈ [p.ref1.priority, p.ref2.priority, p.ring.priority], v < 1 ∨ 3 < v)
            ∨ p.ref1.priority = p.ref2.priority ∨ p.ref1.priority = p.ring.priority ∨ p.ref2.priority = p.ring.priority
            ∨ p.masterAddress < 0xF000 ∨ 0xF0FF < p.masterAddress ∨ (p.masterEnable = 1 ∧ p.ring.enable = 1)
            ∨ (p.ring.enable = 1 ∧ p.masterAddress = s.service.stationAddress)
        let within : Prop :=
          1 ≤ p.stepThreshold ∧ p.stepThreshold ≤ 1000 ∧ 10 ≤ p.fineEntry ∧ p.fineEntry ≤ 50000 ∧ p.fineExit ≤ 100000
            ∧ 1 ≤ p.kp ∧ p.kp ≤ 8 ∧ 2 ≤ p.ki ∧ p.ki ≤ 16 ∧ 10000 ≤ p.slewRate ∧ p.slewRate ≤ 400000
            ∧ 1 ≤ p.holdDrift ∧ p.holdDrift ≤ 100000 ∧ p.ref1.delay ≤ 100000 ∧ p.ref2.delay ≤ 100000
            ∧ p.ring.delay ≤ 1000000 ∧ 3 ≤ p.nQual ∧ p.nQual ≤ 60 ∧ 1 ≤ p.nDisq ∧ p.nDisq ≤ 10 ∧ p.revertHold ≤ 600
        let x := (s.judge (.setTimeConfiguration p)).1
        (s.service.state = .run → x = .refusedState)
          ∧ (s.service.state = .config → refused → x = .refusedArgument)
          ∧ (s.service.state = .config → ¬ refused → within → x = .done)
          ∧ (s.service.state = .config → ¬ refused → ¬ within → x = .doneClamped))
    ∧ (∀ i, s.judge (.setLocalOffset none (some i)) = (.refusedArgument, none))
    ∧ s.judge (.setLocalOffset none none) = (.done, none)
    ∧ (∀ (o : Int) (i : Option Instant),
        s.judge (.setLocalOffset (some o) i)
          = (if o < -720 ∨ 840 < o ∨ i.any (fun k => decide (86400 ≤ k.second)) = true then .refusedArgument else .done, none))
    ∧ (∀ x m n : Nat,
        s.judge (.setRingPort x m n)
          = (if x < 1 ∨ 2 < x ∨ m < 1 ∨ 4 < m then .refusedArgument
            else if 10 ≤ n ∧ n ≤ 10000 then .done else .doneClamped, none))
    ∧ (∀ l g : Nat,
        s.judge (.setTimetableSettings l g)
          = (if s.service.state = .run then .refusedState
            else if l ≤ 7200 ∧ g ≤ 600 then .done else .doneClamped, none))
    ∧ (∀ d, s.judge (.setChangeover none d) = (.done, none))
    ∧ (∀ (i : Instant) (d : Option Nat),
        s.judge (.setChangeover (some i) d)
          = (if 86400 ≤ i.second then .refusedArgument
            else if s.checker.tagA = .draining ∨ s.checker.tagB = .draining then .refusedState
            else if i.nanos ≤ s.time.centre then .tooLate
            else if d.any (fun n => decide (21600 < n)) = true then .doneClamped else .done, none))
    ∧ (∀ (n : Nat) (l : List (Nat × Nat)),
        s.judge (.setActions n l)
          = (if s.service.state = .run then .refusedState
            else if 1 ≤ n ∧ n ≤ 8 ∧ (∀ x ∈ l.take n, 1 ≤ x.1 ∧ x.1 ≤ 27 ∧ x.2 ≤ 3) ∧ ((l.take n).map Prod.fst).Nodup then .done
            else .refusedArgument, none))
    ∧ (∀ p : ClockLineParams, p.line ≠ 1 → p.line ≠ 2 → s.judge (.setClockLine p) = (.refusedArgument, none))
    ∧ (∀ (p : ClockLineParams) (l : LineId), p.line = (match l with | .one => 1 | .two => 2) →
        let x := s.line l
        let step := p.step.getD x.step
        let enable : Prop := match p.enable with | none => x.enable = true | some n => n = 1
        let refused : Prop :=
          (∃ n, p.enable = some n ∧ 2 ≤ n) ∨ (∃ n, p.step = some n ∧ n ≠ 30 ∧ n ≠ 60)
            ∨ (∃ n, p.polarity = some n ∧ n ≠ 1 ∧ n ≠ 2) ∨ (∃ n, p.shown = some n ∧ 43200 / step ≤ n)
            ∨ (step ≠ x.step ∧ p.shown = none)
            ∨ (enable ∧ ((p.shown = none ∧ x.shown = none) ∨ (p.polarity = none ∧ x.polarity = none)))
        let outside (v : Option Nat) (lo hi : Nat) : Prop := ∃ n, v = some n ∧ (n < lo ∨ hi < n)
        let width := match p.width with | none => x.width | some n => max 100 (min 2000 n)
        let fast := match p.fast with | none => x.fast | some n => max 1000 (min 10000 n)
        let clamped : Prop :=
          outside p.width 100 2000 ∨ outside p.fast 1000 10000 ∨ outside p.wait 0 120 ∨ outside p.retry 5 300
            ∨ fast < width + 200
        let r := (s.judge (.setClockLine p)).1
        (refused → r = .refusedArgument) ∧ (¬ refused → ¬ clamped → r = .done) ∧ (¬ refused → clamped → r = .doneClamped))
    ∧ (∀ v : Nat,
        s.judge (.requestState v)
          = (if v = 1 then (.done, none)
            else if v ≠ 2 then (.refusedArgument, none)
            else if s.service.state = .run then (.done, none)
            else if ∀ r ∈ s.elements, r.mode = .ignore then (.refusedState, some .noElements)
            else if s.time.timeSet = false ∧ s.service.runCondition = true then (.refusedState, some .timeUnset)
            else (.done, none)))
    ∧ ∀ v : Nat,
        s.judge (.setRunCondition v)
          = (if s.service.state = .run then .refusedState else if v ≤ 1 then .done else .refusedArgument, none)

/-- RESTART is answered DONE in CONFIG and in RUN, unless a RESTART earlier in the frame is pending: then it, and every other
request, a read among them, is answered SUPERSEDED. -/
def Obligations.RestartIsAnswered : Prop :=
  ∀ (s : State) (f : Frame),
    let pending : Prop :=
      ∃ i ∈ f.items, ∃ c r y j, i.content = .service c (some .restart) r y j ∧ (r = .done ∨ r = .doneClamped)
    parameterOctets .restart = []
    ∧ (pending → ∀ q, s.answer f (some q) = (.superseded, none))
    ∧ (¬ pending → s.answer f (some .restart) = (.done, none))

/-- The judgement, in the order of their rules, of the requests on the tables: LOAD ELEMENT, UNLOAD ELEMENT, SET ELEMENT MODE,
LOAD ENTRY, WITHDRAW ENTRY, ERASE PERIOD, ACKNOWLEDGE RECORD, ACKNOWLEDGE ALARM, READ ELEMENT and READ ENTRY. A timetable-point
flag that is neither off nor on is refused (log 24, log 46). Codes that chapter 12 does not write out, those of the
element modes, periods, check kinds and searches, are read from R189 (log 22). -/
def Obligations.TableRequestsAreJudged : Prop :=
  ∀ s : State,
    let isAddress (a : Nat) : Prop := 1 ≤ a ∧ a ≤ 0xEFFF
    let outside (v : Option Nat) (lo hi : Nat) : Prop := ∃ n, v = some n ∧ (n < lo ∨ hi < n)
    (∀ p : LoadElementParams,
      (s.service.state = .run → s.judge (.loadElement p) = (.refusedState, none))
      ∧ ((loadArguments p).isSome = true ↔
          isAddress p.address ∧ (p.kind = 1 ∨ p.kind = 2) ∧ 1 ≤ p.mode ∧ p.mode ≤ 4 ∧ p.timetablePoint ≤ 1
            ∧ ¬ (p.kind = 2 ∧ p.timetablePoint = 1))
      ∧ (∀ k m b, loadArguments p = some (k, m, b) →
          p.kind = placeIn [.signal, .point] k ∧ p.mode = placeIn [.ignore, .observe, .supervise, .test] m
            ∧ (b = true ↔ p.timetablePoint = 1))
      ∧ (s.service.state = .config → loadArguments p = none → s.judge (.loadElement p) = (.refusedArgument, none))
      ∧ (s.service.state = .config → ∀ k m b, loadArguments p = some (k, m, b) →
          let clamped : Prop :=
            outside p.silence 100 10000 ∨ (k = .signal ∧ outside p.confirm 100 5000)
              ∨ (k = .point ∧ (outside p.start 100 5000 ∨ outside p.run 1 30 ∨ outside p.settle 20 500
                  ∨ outside p.bounces 0 15 ∨ outside p.warning 500 30000))
          let granted : Prop :=
            (clamped → s.judge (.loadElement p) = (.doneClamped, none))
              ∧ (¬ clamped → s.judge (.loadElement p) = (.done, none))
          (s.element p.address = none → 2048 ≤ s.elements.length → s.judge (.loadElement p) = (.full, none))
          ∧ (s.element p.address = none → s.elements.length < 2048 → granted)
          ∧ ∀ r, s.element p.address = some r →
              (0 < r.references → (r.kind ≠ k ∨ b = false) → s.judge (.loadElement p) = (.referenced, none))
              ∧ ((r.references = 0 ∨ (r.kind = k ∧ b = true)) → granted)))
    ∧ (∀ a : Nat,
        s.judge (.unloadElement a)
          = (if s.service.state = .run then .refusedState
            else if ¬ isAddress a then .refusedArgument
            else if s.element a = none then .notFound
            else if (s.element a).any (fun r => decide (r.references = 0)) = true then .done else .referenced, none))
    ∧ (∀ a m : Nat,
        s.judge (.setElementMode a m)
          = (if ¬ isAddress a ∨ m < 1 ∨ 4 < m then .refusedArgument
            else if s.element a = none then .notFound else .done, none))
    ∧ (∀ p : LoadEntryParams,
        let valid (b : Byte) : Prop := (0x30 ≤ b.toNat ∧ b.toNat ≤ 0x39) ∨ (0x41 ≤ b.toNat ∧ b.toNat ≤ 0x5A)
        let x : Period := if p.period = 1 then .a else .b
        let severe := min p.severe 7200
        let late := min p.late 3600
        s.judge (.loadEntry p)
          = (if p.period < 1 ∨ 2 < p.period ∨ ¬ valid p.train.c0 ∨ ¬ valid p.train.c1 ∨ ¬ valid p.train.c2
                ∨ ¬ valid p.train.c3 ∨ ¬ isAddress p.element ∨ p.check < 1 ∨ 2 < p.check ∨ 86400 ≤ p.scheduled.second then
              .refusedArgument
            else if severe < late then .badTolerance
            else if (s.signalPart p.element).any (fun g => g.timetablePoint) = false then .notATimetablePoint
            else if s.tag x = .draining then .periodNotLoadable
            else if (s.entry p.id).any (fun h => decide (s.tag h.period ≠ .standby ∨ s.tag x ≠ .standby)) = true then .idInUse
            else if s.tag x = .live ∧ (p.scheduled.seconds + severe + s.checker.grace) * 1000000000 ≤ s.time.centre then .tooLate
            else if s.entry p.id = none ∧ 4096 ≤ s.checker.store.length then .full
            else if 3600 < p.early ∨ 3600 < p.late ∨ 7200 < p.severe then .doneClamped else .done, none))
    ∧ (∀ i : Nat, s.judge (.withdrawEntry i) = (if s.entry i = none then .notFound else .done, none))
    ∧ (∀ n : Nat,
        s.judge (.erasePeriod n)
          = (if n < 1 ∨ 2 < n then .refusedArgument
            else if s.tag (if n = 1 then .a else .b) = .standby then .done else .refusedState, none))
    ∧ (∀ n : Word32,
        let reference := match s.record.entries with | e :: _ => e.sequence | [] => s.record.next
        s.judge (.acknowledgeRecord n)
          = (if (∃ e ∈ s.record.entries, e.sequence = n)
                ∨ (1 ≤ (reference - n).toNat ∧ (reference - n).toNat ≤ 2147483648) then .done else .refusedArgument, none))
    ∧ (∀ k a : Nat,
        s.judge (.acknowledgeAlarm k a)
          = (if k < 1 ∨ 6 < k ∨ (k = 1 ∧ ¬ isAddress a) then .refusedArgument
            else if k = 1 ∧ s.element a = none then .notFound else .done, none))
    ∧ (∀ a k : Nat,
        s.judge (.readElement a k)
          = (if k < 1 ∨ 2 < k ∨ 0xEFFF < a then .refusedArgument
            else if (k = 1 ∧ (s.element a).isSome = true) ∨ (k = 2 ∧ ∃ r ∈ s.elements, a ≤ r.address) then .done
            else .notFound, none))
    ∧ ∀ i k : Nat,
        s.judge (.readEntry i k)
          = (if k < 1 ∨ 2 < k then .refusedArgument
            else if (k = 1 ∧ (s.entry i).isSome = true) ∨ (k = 2 ∧ ∃ e ∈ s.checker.store, i ≤ e.id) then .done
            else .notFound, none)

/-- The commit of a RESTART: its entry with the state before it, from RUN the STATE_CHANGE entry of cause RESTART and the
ABANDONED entries in ascending order of address; tables and actions cleared, CONFIG, error indication cleared; time,
references, ports and lines and their latches kept. The count of loads is the model's own and is kept (log 52). -/
def Obligations.RestartCommitClears : Prop :=
  ∀ s : State,
    let t := s.applyRequest .restart
    let ended : List EntryBody := s.elements.filterMap (fun r =>
      r.movement.map (fun m => .movement (m.entry r.address .abandoned none none)))
    let u := s.note s.capture (.stateRestart s.service.state) true
    (s.service.state = .config → t.record = u.record)
    ∧ (s.service.state = .run → recordGrows (u.note s.capture (.stateChange .run .config .restart)) t
        ∧ (s.TablesOk → t.record =
            (ended.foldl (fun v b => v.note s.capture b) (u.note s.capture (.stateChange .run .config .restart))).record))
    ∧ t.elements = [] ∧ t.checker = { Checker.powerOn with loads := s.checker.loads }
      ∧ t.alarms.actions = defaultActions ∧ t.service.state = .config
      ∧ (∀ b u, exec (.powerOn b) s = .next u →
          (∀ k, t.actionOf k = u.actionOf k) ∧ t.checker = { u.checker with loads := s.checker.loads })
      ∧ t.service.error = none ∧ t.service.runCondition = s.service.runCondition
      ∧ t.service.stationAddress = s.service.stationAddress ∧ t.alarms.time = s.alarms.time
      ∧ t.alarms.line1 = s.alarms.line1 ∧ t.alarms.line2 = s.alarms.line2 ∧ t.alarms.portA = s.alarms.portA
      ∧ t.alarms.portB = s.alarms.portB ∧ t.alarms.output = t.anyLatch ∧ recordGrows s t
      ∧ sameBut s t [.elements, .checker, .alarms, .service, .record]

/-- A request on the settings, applied at its commit when its rule grants it: SET TIMETABLE SETTINGS, SET RUN CONDITION, SET
LOCAL OFFSET, SET RING PORT, SET CHANGEOVER, SET ACTIONS and REQUEST STATE, with its STATE_CHANGE entry, the coverage and the
expiries of entering RUN, and the ABANDONED entries and dropped contexts of leaving it; a REQUEST STATE for the state held and
a read have no effect. That a local offset taken at once forms an OFFSET CHANGE entry without an instant is read from R22 (log
28). Codes that chapter 12 does not write out are read from R189 (log 22). -/
def Obligations.SettingsTakeEffectAtCommit : Prop :=
  ∀ s : State,
    (∀ q, isRead q = true → s.applyRequest q = s)
    ∧ (∀ l g, s.service.state = .config → s.applyRequest (.setTimetableSettings l g)
        = { s with checker := { s.checker with lead := min l 7200, grace := min g 600 } })
    ∧ (s.service.state = .config →
        s.applyRequest (.setRunCondition 0) = { s with service := { s.service with runCondition := false } }
          ∧ s.applyRequest (.setRunCondition 1) = { s with service := { s.service with runCondition := true } })
    ∧ (∀ v, s.service.state = .run → s.applyRequest (.setRunCondition v) = s)
    ∧ (∀ o : Int, -720 ≤ o → o ≤ 840 →
        let t := s.applyRequest (.setLocalOffset (some o) none)
        t.time = { s.time with localOffset := o, pendingOffset := none }
          ∧ noted s t (.timeOffsetChange s.time.localOffset o none) false ∧ sameBut s t [.time, .record])
    ∧ (∀ (o : Int) (i : Instant), -720 ≤ o → o ≤ 840 → i.second < 86400 →
        let t := s.applyRequest (.setLocalOffset (some o) (some i))
        (s.time.centre < i.nanos → t = { s with time := { s.time with pendingOffset := some { offset := o, instant := i } } })
          ∧ (i.nanos ≤ s.time.centre →
              t.time = { s.time with localOffset := o, pendingOffset := none }
                ∧ noted s t (.timeOffsetChange s.time.localOffset o (some i)) false ∧ sameBut s t [.time, .record]))
    ∧ s.applyRequest (.setLocalOffset none none) = { s with time := { s.time with pendingOffset := none } }
    ∧ (∀ (limit : Nat) (p : PortId) (m : LoopMode),
        let t := s.applyRequest
          (.setRingPort (placeIn [.a, .b] p) (placeIn [.auto, .autoClose, .alwaysOpen, .alwaysClosed] m) limit)
        (t.port p).mode = m ∧ (t.port p).silenceLimit = max 10 (min 10000 limit)
          ∧ (m = .autoClose → (t.port p).reopenCount = (s.port p).reopenCount
              ∧ (t.port p).reopenPending
                = if (s.port p).up = true ∨ (s.port p).mode ≠ .autoClose then false else (s.port p).reopenPending)
          ∧ (m ≠ .autoClose → (t.port p).reopenPending = false
              ∧ (t.port p).reopenCount = if (s.port p).mode = m then (s.port p).reopenCount else 0)
          ∧ (t.port p).up = (s.port p).up ∧ (t.port p).activity = (s.port p).activity
          ∧ (t.port p).badFrames = (s.port p).badFrames
          ∧ ((m = .alwaysOpen ∨ ((t.port p).up = true ∧ (m = .auto ∨ (m = .autoClose ∧ (t.port p).reopenPending = false)))) →
              (t.port p).demand = .isOpen)
          ∧ (¬(m = .alwaysOpen ∨ ((t.port p).up = true ∧ (m = .auto ∨ (m = .autoClose ∧ (t.port p).reopenPending = false)))) →
              (t.port p).demand = .isClosed)
          ∧ ((s.port p).transmitter = .idle → (t.port p).loop = (t.port p).demand)
          ∧ ((s.port p).transmitter ≠ .idle → (t.port p).loop = (s.port p).loop)
          ∧ ((t.port p).loop = (s.port p).loop → t.record = s.record)
          ∧ ((t.port p).loop ≠ (s.port p).loop → noted s t (.portLoop p (t.port p).loop m) false)
          ∧ ((s.port p).silenceDeadline.isSome = true →
              (t.port p).silenceDeadline = some (s.time.elapsed + max 10 (min 10000 limit) * 1000))
          ∧ ((s.port p).silenceDeadline = none → (t.port p).silenceDeadline = none)
          ∧ (t.port p).frame = (s.port p).frame ∧ (t.port p).transmitter = (s.port p).transmitter
          ∧ t.port p.other = s.port p.other ∧ sameBut s t [.portA, .portB, .record])
    ∧ (s.applyRequest (.setChangeover none none) = { s with checker := { s.checker with schedule := none } })
    ∧ (∀ (i : Instant) (d : Nat), i.second < 86400 → s.checker.tagA ≠ .draining → s.checker.tagB ≠ .draining →
        s.time.centre < i.nanos → s.applyRequest (.setChangeover (some i) (some d))
          = { s with checker := { s.checker with schedule := some { instant := i, drain := min d 21600 } } }
          ∧ s.applyRequest (.setChangeover (some i) none)
            = { s with checker := { s.checker with schedule := some { instant := i, drain := 14400 } } })
    ∧ (∀ (n : Nat) (l : List (Nat × Nat)), s.AlarmOk → s.service.state = .config → 1 ≤ n → n ≤ 8 →
        (∀ x ∈ l.take n, 1 ≤ x.1 ∧ x.1 ≤ 27 ∧ x.2 ≤ 3) → ((l.take n).map Prod.fst).Nodup →
        let t := s.applyRequest (.setActions n l)
        let kind (k : ActionKind) : Nat :=
          placeIn [.failedToStart, .failedToDetect, .detectionLost, .uncommandedMove, .aspectNotShown, .qualityQ4, .chatter,
            .trend, .signalDropped, .lampDark, .coverageLost, .severe, .missed, .qualityQ3, .holdover, .lineOpen, .lineShort,
            .portLinkDown, .portSilent, .slowMovement, .early, .onTime, .late, .unobserved, .unplanned, .sourceChange,
            .jabber] k
        let action (a : Action) : Nat := match a with | .off => 0 | .record => 1 | .alert => 2 | .latch => 3
        (∀ k a, (kind k, action a) ∈ l.take n → t.actionOf k = a)
          ∧ (∀ k, (∀ x ∈ l.take n, x.1 ≠ kind k) → t.actionOf k = s.actionOf k)
          ∧ t.alarms.output = s.alarms.output ∧ sameBut s t [.alarms])
    ∧ (s.service.state = .run → s.applyRequest (.requestState 2) = s)
    ∧ (s.service.state = .config → s.applyRequest (.requestState 1) = s)
    ∧ (s.service.state = .config → (∃ r ∈ s.elements, r.mode ≠ .ignore) →
        (s.time.timeSet = true ∨ s.service.runCondition = false) →
        let t := s.applyRequest (.requestState 2)
        let u := s.note s.capture (.stateChange .config .run .request)
        let entered (r : ElementRecord) : ElementRecord :=
          { r with coverage := .never, regained := none, silenceDeadline := none }
        let due (e : TimetableEntry) : Prop := e.state = .pending ∧ e.expiry * 1000000000 ≤ s.time.centre
        t.service = { s.service with state := .run }
          ∧ t.elements.map ElementRecord.unlatched = s.elements.map (fun r => (entered r).unlatched)
          ∧ (s.time.quality = .q4 → t.elements = s.elements.map entered ∧ t.record = u.record ∧ t.checker = s.checker
              ∧ t.alarms = s.alarms)
          ∧ (s.time.quality ≠ .q4 →
              t.record =
                ((s.dueQueue.filter (fun e => decide (e.expiry * 1000000000 ≤ s.time.centre))).foldl
                  (fun x e => x.verdict s.capture
                    (if s.tag e.period = .standby then e.unmatched .withdrawn (some .periodStandby) true
                    else e.unmatched .unobserved none true)) u).record
              ∧ (s.TablesOk → ∀ i e, s.entry i = some e →
                  (due e → t.entry i =
                      some { e with state := if s.tag e.period = .standby then .withdrawn else .unobserved })
                    ∧ (¬ due e → t.entry i = some e)))
          ∧ sameBut s t [.service, .record, .elements, .checker, .alarms] ∧ recordGrows s t)
    ∧ (s.TablesOk → s.service.state = .run →
        let t := s.applyRequest (.requestState 1)
        let ended : List EntryBody := s.elements.filterMap (fun r =>
          r.movement.map (fun m => .movement (m.entry r.address .abandoned none none)))
        t.service = { s.service with state := .config }
          ∧ t.elements = s.elements.map (fun r =>
              { r with
                silenceDeadline := none
                part := match r.part with
                  | .point p => .point { p with movement := none }
                  | .signal g => .signal { g with confirmation := none, clearedFor := none } })
          ∧ t.record = (ended.foldl (fun v b => v.note s.capture b)
              (s.note s.capture (.stateChange .run .config .request))).record
          ∧ sameBut s t [.service, .record, .elements])

/-- A granted SET TIME CONFIGURATION replaces the clamped settings, sets sources to ABSENT or keeps them, and evaluates the
selection and the quality class; a selection that moves forms its SOURCE CHANGE entry of reason CONFIGURED and ends HOLDOVER in
SLEW, one that is lost its HOLDOVER entry; of several sources at their revert instants the most preferred displaces at once
(the model's choice, log 44), and a selected source that is disabled together with new priorities gives one evaluation, with
the new ones (the model's choice, log 54). A granted SET CLOCK LINE cuts a pulse, replaces the settings, moves the line state
and forms the SET entry. The codes of the polarities are the model's (log 60). -/
def Obligations.TimeAndLineSettingsTakeEffect : Prop :=
  ∀ s : State,
    (∀ p : TimeConfigParams,
        ((s.judge (.setTimeConfiguration p)).1 = .done ∨ (s.judge (.setTimeConfiguration p)).1 = .doneClamped) →
      let c : TimeConfig :=
        { stepThreshold := max 1 (min 1000 p.stepThreshold), stepPermit := decide (p.stepPermit = 1),
          stepInRun := decide (p.stepInRun = 1), fineEntry := max 10 (min 50000 p.fineEntry),
          fineExit := min 100000 p.fineExit, kp := max 1 (min 8 p.kp), ki := max 2 (min 16 p.ki),
          slewRate := max 10000 (min 400000 p.slewRate), holdDrift := max 1 (min 100000 p.holdDrift), l1 := p.l1, l2 := p.l2,
          l3 := p.l3,
          ref1 := { enable := decide (p.ref1.enable = 1), priority := p.ref1.priority, delay := min 100000 p.ref1.delay },
          ref2 := { enable := decide (p.ref2.enable = 1), priority := p.ref2.priority, delay := min 100000 p.ref2.delay },
          ring := { enable := decide (p.ring.enable = 1), priority := p.ring.priority, delay := min 1000000 p.ring.delay },
          nQual := max 3 (min 60 p.nQual), nDisq := max 1 (min 10 p.nDisq), revertHold := min 600 p.revertHold,
          masterEnable := decide (p.masterEnable = 1), masterAddress := p.masterAddress }
      let t := s.applyRequest (.setTimeConfiguration p)
      let kept (x : Source) : Prop :=
        (s.time.config.source x).enable = true ∧ (c.source x).enable = true
          ∧ (x = .ring → s.time.config.masterAddress = c.masterAddress)
      let qualified (x : Source) : Prop := (t.source x).state = .qualified
      let above (x y : Source) : Prop := (c.source x).priority < (c.source y).priority
      let ready (x y : Source) : Prop :=
        qualified x ∧ above x y
          ∧ ∃ q, (t.source x).qualifiedSince = some q ∧ q + c.revertHold * 1000000 ≤ s.time.elapsed
      t.time.config = c
      ∧ (∀ x, kept x → t.source x =
          { s.source x with
            bad := if (s.source x).state = .disqualified then c.nDisq else min (s.source x).bad c.nDisq })
      ∧ (∀ x, ¬ kept x → t.source x =
          { state := .absent, good := 0, bad := 0, previousGood := none, qualifiedSince := none, markDeadline := none,
            absenceDeadline := none })
      ∧ (∀ w : Wired, kept w.source → t.wired w = s.wired w)
      ∧ (∀ w : Wired, ¬ kept w.source →
          t.wired w = { s.wired w with mark := none, message := none, collected := [] })
      ∧ (kept .ring → t.refs.lastRingSecond = s.refs.lastRingSecond)
      ∧ (¬ kept .ring → t.refs.lastRingSecond = none)
      ∧ (∀ x, s.refs.selected = some x → qualified x →
          ((∀ y, ¬ ready y x) → t.refs.selected = some x)
            ∧ ((∃ y, ready y x) → ∃ y, t.refs.selected = some y ∧ ready y x ∧ ∀ z, ready z x → ¬ above z y))
      ∧ ((∀ x, s.refs.selected = some x → ¬ qualified x) →
          ((∀ y, ¬ qualified y) → t.refs.selected = none)
            ∧ ((∃ y, qualified y) → ∃ y, t.refs.selected = some y ∧ qualified y ∧ ∀ z, qualified z → ¬ above z y))
      ∧ (t.refs.selected ≠ s.refs.selected → t.time.stepCount = 0)
      ∧ (t.refs.selected = s.refs.selected → t.time.stepCount = s.time.stepCount ∧ t.time.mode = s.time.mode)
      ∧ (s.refs.selected.isSome = true → t.refs.selected = none → s.time.timeSet = true →
          t.time.mode = .holdover ∧ t.time.c = s.time.i ∧ t.time.nextHoldover = some (s.time.elapsed + 1000000))
      ∧ (∀ x, s.refs.selected = some x → t.refs.selected = none → s.time.timeSet = true →
          recordGrows (s.raise
            { kind := .holdover, target := .time, capture := s.capture, body := .timeHoldover x s.time.u s.time.i }) t)
      ∧ (∀ x, s.refs.selected = some x → t.refs.selected = none → s.time.timeSet = false →
          t.time.mode = s.time.mode ∧ t.time.c = s.time.c ∧ t.time.nextHoldover = s.time.nextHoldover
            ∧ recordGrows (s.raise
                { kind := .sourceChange, target := .time, capture := s.capture,
                  body := .timeSourceChange (some x) none .lost }) t)
      ∧ (∀ y, t.refs.selected = some y → s.refs.selected ≠ some y →
          t.time.mode = (if s.time.mode = .holdover then .slew else s.time.mode) ∧ t.time.c = s.time.c
            ∧ t.time.nextHoldover = (if s.time.mode = .holdover then none else s.time.nextHoldover)
            ∧ recordGrows (s.raise
                { kind := .sourceChange, target := .time, capture := s.capture,
                  body := .timeSourceChange s.refs.selected (some y) .configured }) t)
      ∧ t.time.quality
          = ({ t with time := { t.time with quality := s.time.quality } } : State).evalQuality.time.quality
      ∧ t.holds t.time.quality = true ∧ t.time.centre = s.time.centre ∧ t.time.elapsed = s.time.elapsed
      ∧ t.time.epoch = s.time.epoch ∧ t.time.timeSet = s.time.timeSet ∧ t.time.i = s.time.i ∧ t.time.u = s.time.u
      ∧ t.time.localOffset = s.time.localOffset ∧ t.time.pendingOffset = s.time.pendingOffset
      ∧ recordGrows s t ∧ sameElements s t ∧ sameBut s t [.time, .refs, .record, .alarms, .elements, .checker])
    ∧ (∀ (p : ClockLineParams) (l : LineId), p.line = (match l with | .one => 1 | .two => 2) →
        ((s.judge (.setClockLine p)).1 = .done ∨ (s.judge (.setClockLine p)).1 = .doneClamped) →
      let x := s.line l
      let t := s.applyRequest (.setClockLine p)
      let y := t.line l
      let width := match p.width with | none => x.width | some n => max 100 (min 2000 n)
      let cut : Prop :=
        p.shown.isSome = true ∨ p.polarity.isSome = true ∨ y.step ≠ x.step ∨ (x.enable = true ∧ y.enable = false)
      y.enable = (match p.enable with | none => x.enable | some n => decide (n = 1))
      ∧ y.step = p.step.getD x.step ∧ y.shown = (match p.shown with | none => x.shown | some n => some n)
      ∧ y.polarity = (match p.polarity with
          | none => x.polarity | some n => some (if n = 1 then Polarity.positive else .negative))
      ∧ y.width = width ∧ y.wait = (match p.wait with | none => x.wait | some n => min 120 n)
      ∧ y.fast = max (match p.fast with | none => x.fast | some n => max 1000 (min 10000 n)) (width + 200)
      ∧ y.retry = (match p.retry with | none => x.retry | some n => max 5 (min 300 n))
      ∧ (cut → y.pulse = none ∧ (x.pulse.isSome = true → y.drive = false) ∧ (x.pulse = none → y.drive = x.drive))
      ∧ (¬ cut → y.pulse = x.pulse ∧ y.drive = x.drive)
      ∧ (x.state = .hold ∨ x.state = .running → y.state = if y.enable then .running else .hold)
      ∧ (x.state = .retry → y.state = if y.enable then .retry else .hold)
      ∧ (x.state = .latchedOff → y.state = .latchedOff)
      ∧ y.retryDeadline = (if y.state = .retry then x.retryDeadline else none)
      ∧ y.shortCount = x.shortCount ∧ y.openReported = x.openReported ∧ y.lastStart = x.lastStart
      ∧ y.bridge = x.bridge ∧ y.current = x.current ∧ y.overCurrent = x.overCurrent
      ∧ ((y.enable, y.step, y.shown, y.polarity, y.width, y.fast, y.wait, y.retry)
            = (x.enable, x.step, x.shown, x.polarity, x.width, x.fast, x.wait, x.retry) → t.record = s.record)
      ∧ ((y.enable, y.step, y.shown, y.polarity, y.width, y.fast, y.wait, y.retry)
            ≠ (x.enable, x.step, x.shown, x.polarity, x.width, x.fast, x.wait, x.retry) →
          noted s t (.lineSet l x.shown y.shown x.polarity y.polarity y.enable y.step y.state) false)
      ∧ (∀ k, k ≠ l → t.line k = s.line k) ∧ sameBut s t [.line1, .line2, .record])

/-- A request on a table, applied at its commit when its rule grants it: LOAD ELEMENT, UNLOAD ELEMENT, SET ELEMENT MODE, LOAD
ENTRY, WITHDRAW ENTRY, ERASE PERIOD, ACKNOWLEDGE RECORD and ACKNOWLEDGE ALARM, with the ABANDONED entry of a change of mode and
the VERDICT entry of a withdrawal. An ACKNOWLEDGE RECORD removes the entries up to the one it names, or none when that has
gone, and the GAP rule follows. Which entry a WITHDRAW ENTRY named is told by the model's count of loads (log 52). Codes that
chapter 12 does not write out are read from R189 (log 22). -/
def Obligations.TableRequestsTakeEffectAtCommit : Prop :=
  ∀ s : State, s.TablesOk →
    let names (x y : Nat) (g : LatchTarget) : Prop :=
      match g with
      | .element a => x = 1 ∧ y = a ∧ 1 ≤ a ∧ a ≤ 0xEFFF ∧ s.element a ≠ none
      | .time => x = 2
      | .line .one => x = 3
      | .line .two => x = 4
      | .port .a => x = 5
      | .port .b => x = 6
    (∀ (p : LoadElementParams) (k : ElementKind) (m : ElementMode) (b : Bool), p.kind = placeIn [.signal, .point] k →
        p.mode = placeIn [.ignore, .observe, .supervise, .test] m → (b = true ↔ p.timetablePoint = 1) →
        ((s.judge (.loadElement p)).1 = .done ∨ (s.judge (.loadElement p)).1 = .doneClamped) →
        let t := s.applyRequest (.loadElement p)
        let limit (v : Option Nat) (standard lo hi : Nat) : Nat :=
          match v with | none => standard | some n => max lo (min hi n)
        let part : ElementPart :=
          match k with
          | .signal => .signal
            { timetablePoint := b, confirmLimit := limit p.confirm 1500 100 5000, clearedFor := none, confirmation := none }
          | .point => .point
            { startLimit := limit p.start 1000 100 5000, runLimit := limit p.run 8 1 30,
              settleTime := limit p.settle 100 20 500, maxBounces := limit p.bounces 3 0 15,
              warning := limit p.warning 6000 500 30000, movement := none, history := [] }
        t.element p.address
            = some
              { address := p.address, mode := m, silenceLimit := limit p.silence 1500 100 10000, lastCommand := none,
                lastStatus := none, commandSequence := none, statusSequence := none, coverage := .never, regained := none,
                silenceDeadline := none, latched := none,
                references := ((s.element p.address).map (fun r => r.references)).getD 0, part := part }
          ∧ othersSame s t p.address ∧ sameBut s t [.elements, .alarms])
    ∧ (∀ (a : Nat) (r : ElementRecord), s.service.state = .config → s.element a = some r → r.references = 0 →
        let t := s.applyRequest (.unloadElement a)
        t.element a = none ∧ othersSame s t a ∧ sameBut s t [.elements, .alarms])
    ∧ (∀ (a : Nat) (r : ElementRecord) (m : ElementMode), s.element a = some r → 1 ≤ a → a ≤ 0xEFFF →
        let t := s.applyRequest (.setElementMode a (placeIn [.ignore, .observe, .supervise, .test] m))
        (r.mode = m → t = s)
          ∧ (r.mode ≠ m →
              let part : ElementPart :=
                match r.part with
                | .point p => .point { p with movement := none }
                | .signal g => .signal
                  { g with
                    confirmation := if r.mode = .observe ∧ m = .supervise then g.confirmation else none
                    clearedFor :=
                      if (r.mode = .observe ∧ m = .supervise) ∨ (r.mode = .supervise ∧ m = .observe) then g.clearedFor
                      else none }
              let stale (h : Option Held) : Option Held := h.map (fun v => { v with stale := true })
              (m ≠ .ignore → t.element a = some { r with mode := m, part := part })
              ∧ (m = .ignore → t.element a = some
                  { r with
                    mode := m, part := part, lastCommand := stale r.lastCommand, lastStatus := stale r.lastStatus,
                    commandSequence := none, statusSequence := none, coverage := .never, regained := none,
                    silenceDeadline := none })
              ∧ (∀ k, r.movement = some k →
                  t.record = (s.note s.capture (.movement (k.entry a .abandoned none none))).record)
              ∧ (r.movement = none → t.record = s.record))
          ∧ othersSame s t a ∧ sameBut s t [.elements, .record])
    ∧ (∀ (p : LoadEntryParams) (x : Period) (k : CheckKind), p.period = placeIn [.a, .b] x →
        p.check = placeIn [.cleared, .passed] k →
        ((s.judge (.loadEntry p)).1 = .done ∨ (s.judge (.loadEntry p)).1 = .doneClamped) →
        let t := s.applyRequest (.loadEntry p)
        let severe := min p.severe 7200
        let seconds := p.scheduled.day * 86400 + p.scheduled.second
        t.entry p.id = some
            { id := p.id, period := x, train := p.train, element := p.element, check := k, scheduled := p.scheduled,
              early := min p.early 3600, late := min p.late 3600, severe := severe,
              windowStart := (seconds : Int) - s.checker.lead, expiry := seconds + severe + s.checker.grace,
              state := .pending, matched := none, serial := s.checker.loads } ∧ (∀ i, i ≠ p.id → t.entry i = s.entry i)
          ∧ sameBut s t [.checker, .elements])
    ∧ (∀ (i : Nat) (e : TimetableEntry), s.entry i = some e →
        let t := s.applyRequest (.withdrawEntry i)
        (e.state = .pending → t.entry i = some { e with state := .withdrawn }
          ∧ t.record = (s.note s.capture (.verdict
              { verdict := .withdrawn, id := some i, period := some e.period, train := e.train, element := e.element,
                check := e.check, scheduled := some e.scheduled, event := none, deviation := none,
                reason := some .requested, qualified := decide (s.time.quality ≠ .q4) })).record)
          ∧ (e.state ≠ .pending → t = s) ∧ (∀ j, j ≠ i → t.entry j = s.entry j)
          ∧ sameBut s t [.checker, .record])
    ∧ (∀ (i : Nat) (e : TimetableEntry) (y : Option Reason) (judged since : Nat), s.entry i = some e →
        let t := s.commitService 0x23 (some (.withdrawEntry i)) .done y judged since
        let u := { s with service := { s.service with error := none } }
        (judged ≤ e.serial → e.serial < since → t = u)
          ∧ ((e.serial < judged ∨ since ≤ e.serial) → t = u.applyRequest (.withdrawEntry i)))
    ∧ (∀ p : Period, s.tag p = .standby →
        let t := s.applyRequest (.erasePeriod (placeIn [.a, .b] p))
        t.checker.store = s.checker.store.filter (fun e => decide (e.period ≠ p))
          ∧ t.tag p = .standby ∧ t.record = s.record ∧ sameBut s t [.checker, .elements])
    ∧ (∀ (n : Word32) (removed kept : List Entry),
        s.record.entries = removed ++ kept →
        ((∃ u e, removed = u ++ [e] ∧ e.sequence = n ∧ ∀ x ∈ u, x.sequence ≠ n)
          ∨ (removed = [] ∧ ∀ x ∈ kept, x.sequence ≠ n)) →
        let t := s.applyRequest (.acknowledgeRecord n)
        ((s.record.tally = none ∨ 8192 ≤ kept.length) → t.record = { s.record with entries := kept })
          ∧ (∀ k, s.record.tally = some k → kept.length < 8192 →
              ∃ e, t.record = { entries := kept ++ [e], next := s.record.next + 1, last := some e.stamp, tally := none }
                ∧ e.sequence = s.record.next ∧ e.body = .gap k ∧ e.alarm = true ∧ e.action = none ∧ e.latch = false
                ∧ e.test = false)
          ∧ sameBut s t [.record])
    ∧ (∀ (x y : Nat) (g : LatchTarget), names x y g → s.latchOf g = none →
        let t := s.applyRequest (.acknowledgeAlarm x y)
        (∀ l, g = .line l → (s.line l).state = .latchedOff →
            t.line l = { s.line l with shortCount := 0, state := if (s.line l).enable then .running else .hold }
              ∧ (∀ k, k ≠ l → t.line k = s.line k) ∧ sameBut s t [.line1, .line2])
          ∧ ((∀ l, g = .line l → (s.line l).state ≠ .latchedOff) → t = s))
    ∧ (∀ (x y : Nat) (g : LatchTarget) (f : Latched), names x y g → s.latchOf g = some f →
        let t := s.applyRequest (.acknowledgeAlarm x y)
        t.latchOf g = none ∧ (∀ h, h ≠ g → t.latchOf h = s.latchOf h) ∧ t.alarms.output = t.anyLatch
          ∧ noted s t (.stateAlarmAck g f) false ∧ sameElements s t
          ∧ (∀ l, g = .line l → (s.line l).state = .latchedOff →
              (t.line l).shortCount = 0 ∧ (t.line l).state = if (s.line l).enable then .running else .hold)
          ∧ sameBut s t [.elements, .record, .alarms, .line1, .line2])

/-- The error indication at a commit: a refusal of a request that is no read sets it, a grant clears it, a read and SUPERSEDED
leave it. A service item then has its request applied when that was granted, is granted again by its rule (ACKNOWLEDGE RECORD
needs no second grant), and names no entry that has gone (told by the model's count of loads, log 52). A SERVICE telegram of
wrong form: an empty body passes; an unknown code or a body too short has its result in the last octet, a body of another
length after its parameters, and there it is answered REFUSED_ARGUMENT. -/
def Obligations.ErrorIndicationAndMalformedRequests : Prop :=
  ∀ s : State,
    (∀ (c : Byte) (r : Result) (y : Option Reason),
      sameBut s (s.indicate c r y) [.service]
      ∧ ((c = 0x01 ∨ c = 0x13 ∨ c = 0x25 ∨ c = 0x30) → s.indicate c r y = s)
      ∧ (r = .superseded → s.indicate c r y = s)
      ∧ (¬(c = 0x01 ∨ c = 0x13 ∨ c = 0x25 ∨ c = 0x30) → (r = .done ∨ r = .doneClamped) →
          (s.indicate c r y).service = { s.service with error := none })
      ∧ (¬(c = 0x01 ∨ c = 0x13 ∨ c = 0x25 ∨ c = 0x30) → r ≠ .done → r ≠ .doneClamped → r ≠ .superseded →
          (s.indicate c r y).service =
            { s.service with error := some { code := c, result := r, reason := y, stamp := s.stampOf s.capture } }))
    ∧ (∀ (p : PortId) (processed : Bool) (since : Nat) (i : Item) (c : Byte) (q : Option Request) (r : Result)
        (y : Option Reason) (judged : Nat), i.content = .service c q r y judged →
      let u := s.indicate c r y
      let t := State.commitItem p processed since s i
      let granted : Prop := r = .done ∨ r = .doneClamped
      let gone : Prop :=
        ∃ j e, q = some (.withdrawEntry j) ∧ s.entry j = some e ∧ judged ≤ e.serial ∧ e.serial < since
      ((¬ granted ∨ q = none ∨ gone) → t = u) ∧ ∀ x, q = some x → granted → ¬ gone → t = u.applyRequest x)
    ∧ (∀ x, (∀ n, x ≠ .acknowledgeRecord n) → (s.judge x).1 ≠ .done → (s.judge x).1 ≠ .doneClamped →
        s.applyRequest x = s)
    ∧ ∀ (dt : Nat) (p : PortId) (f : Frame) (o : List Byte), s.inReset = false → (s.port p).frame = some f →
      field f.received 12 2 = 0x9A42 → f.parsed < field f.received 16 1 → f.parsed < 64 → f.telegram = none →
      6 ≤ o.length → field o 2 1 = 0x20 → o.length = 6 + field o 4 2 →
      let n := field o 4 2
      let lengths := lengthsOf (field o 6 1)
      ∃ t g x, exec (.telegramParse dt p o) s = .next t ∧ (t.port p).frame = some g ∧ g.telegram = some x
        ∧ g.items = f.items ∧ x.received = o
        ∧ (n = 0 → x.sent = o ∧ x.inserted = false ∧ x.content = none)
        ∧ (∀ k : Nat, 0 < n →
            ((lengths = none ∧ k = 5 + n) ∨ (∃ a b, lengths = some (a, b) ∧ n < a + 2 ∧ k = 5 + n)
              ∨ (∃ a b, lengths = some (a, b) ∧ a + 2 ≤ n ∧ n ≠ a + 2 + b ∧ k = 7 + a)) →
            let mine : Prop :=
              f.processed = true ∧ field o 0 2 = s.service.stationAddress ∧ o[k]? = some 0x00
            (mine → x.inserted = true ∧ x.sent = o.set k 0x04
                ∧ ∀ c, o[6]? = some c → x.content = some (.service c none .refusedArgument none s.checker.loads))
              ∧ (¬ mine → x.inserted = false ∧ x.sent = o ∧ x.content = none))
        ∧ t.port p.other = s.port p.other ∧ sameBut (s.advance dt) t [.portA, .portB]

/-- The table of requests: code, parameter octets and reply octets of each, no other code known; the parameters in the order of
their rules, and the SERVICE telegram around them (its reply area sent as zeros is the model's, log 9); the result codes. The
parameter octets of every well-formed request are as long as its row says and read back as that request. -/
def Obligations.ParametersReadBack : Prop :=
  let row (q : Request) : Nat × Nat × Nat :=
    match q with
    | .readStatus => (0x01, 0, 224)
    | .setTimeConfiguration _ => (0x02, 44, 0)
    | .setLocalOffset _ _ => (0x03, 7, 0)
    | .setRingPort _ _ _ => (0x04, 4, 0)
    | .loadElement _ => (0x10, 17, 0)
    | .unloadElement _ => (0x11, 2, 0)
    | .setElementMode _ _ => (0x12, 3, 0)
    | .readElement _ _ => (0x13, 3, 96)
    | .setTimetableSettings _ _ => (0x20, 4, 0)
    | .setChangeover _ _ => (0x21, 7, 0)
    | .loadEntry _ => (0x22, 21, 0)
    | .withdrawEntry _ => (0x23, 2, 0)
    | .erasePeriod _ => (0x24, 1, 0)
    | .readEntry _ _ => (0x25, 3, 48)
    | .readRecord _ => (0x30, 4, 268)
    | .acknowledgeRecord _ => (0x31, 4, 0)
    | .setActions _ _ => (0x32, 17, 0)
    | .acknowledgeAlarm _ _ => (0x33, 3, 0)
    | .setClockLine _ => (0x40, 13, 0)
    | .requestState _ => (0x50, 1, 0)
    | .setRunCondition _ => (0x51, 1, 0)
    | .acknowledgeErrorIndication => (0x52, 0, 0)
    | .restart => (0x53, 0, 0)
  let opt (n : Nat) (v : Option Nat) : List Byte := match v with | none => List.replicate n 0xFF | some x => octets n x
  let instant (i : Instant) : List Byte := octets 2 i.day ++ octets 3 i.second
  let optInstant (i : Option Instant) : List Byte := match i with | none => List.replicate 5 0xFF | some x => instant x
  let parameters (q : Request) : List Byte :=
    match q with
    | .setTimeConfiguration p =>
      octets 2 p.stepThreshold ++ octets 1 p.stepPermit ++ octets 1 p.stepInRun ++ octets 2 p.fineEntry ++ octets 3 p.fineExit
        ++ octets 1 p.kp ++ octets 1 p.ki ++ octets 3 p.slewRate ++ octets 3 p.holdDrift ++ octets 2 p.l1 ++ octets 1 p.l2
        ++ octets 2 p.l3 ++ octets 1 p.ref1.enable ++ octets 1 p.ref2.enable ++ octets 1 p.ring.enable
        ++ octets 1 p.ref1.priority ++ octets 1 p.ref2.priority ++ octets 1 p.ring.priority ++ octets 3 p.ref1.delay
        ++ octets 3 p.ref2.delay ++ octets 3 p.ring.delay ++ octets 1 p.nQual ++ octets 1 p.nDisq ++ octets 2 p.revertHold
        ++ octets 1 p.masterEnable ++ octets 2 p.masterAddress
    | .setLocalOffset o i => (match o with | none => [0x80, 0x00] | some v => octets 2 (v % 65536).toNat) ++ optInstant i
    | .setRingPort p m n => octets 1 p ++ octets 1 m ++ octets 2 n
    | .loadElement p =>
      octets 2 p.address ++ octets 1 p.kind ++ octets 1 p.mode ++ octets 1 p.timetablePoint ++ opt 2 p.silence
        ++ opt 2 p.start ++ opt 1 p.run ++ opt 2 p.settle ++ opt 1 p.bounces ++ opt 2 p.warning ++ opt 2 p.confirm
    | .unloadElement a => octets 2 a
    | .setElementMode a m => octets 2 a ++ octets 1 m
    | .readElement a k => octets 2 a ++ octets 1 k
    | .setTimetableSettings l g => octets 2 l ++ octets 2 g
    | .setChangeover i d => optInstant i ++ opt 2 d
    | .loadEntry p =>
      octets 2 p.id ++ octets 1 p.period ++ [p.train.c0, p.train.c1, p.train.c2, p.train.c3] ++ octets 2 p.element
        ++ octets 1 p.check ++ instant p.scheduled ++ octets 2 p.early ++ octets 2 p.late ++ octets 2 p.severe
    | .withdrawEntry i => octets 2 i
    | .erasePeriod p => octets 1 p
    | .readEntry i k => octets 2 i ++ octets 1 k
    | .readRecord n => octets 4 n.toNat
    | .acknowledgeRecord n => octets 4 n.toNat
    | .setActions n l => octets 1 n ++ l.flatMap (fun x => octets 1 x.1 ++ octets 1 x.2)
    | .acknowledgeAlarm x a => octets 1 x ++ octets 2 a
    | .setClockLine p =>
      octets 1 p.line ++ opt 1 p.enable ++ opt 1 p.step ++ opt 2 p.shown ++ opt 1 p.polarity ++ opt 2 p.width
        ++ opt 2 p.fast ++ opt 1 p.wait ++ opt 2 p.retry
    | .requestState v => octets 1 v
    | .setRunCondition v => octets 1 v
    | .readStatus | .acknowledgeErrorIndication | .restart => []
  (∀ q : Request,
    (codeOf q).toNat = (row q).1 ∧ lengthsOf (row q).1 = some (row q).2 ∧ parameterOctets q = parameters q
      ∧ ∀ x : Telegram, serviceOctets x q =
          octets 2 x.address.toNat ++ [0x20, x.sequence] ++ octets 2 (2 + (parameters q).length + (row q).2.2)
            ++ codeOf q :: (parameters q ++ x.result :: List.replicate (row q).2.2 0x00))
  ∧ (∀ n, (∀ q, n ≠ (row q).1) → lengthsOf n = none)
  ∧ (∀ r : Result, r.code =
      placeIn [.done, .doneClamped, .refusedState, .refusedArgument, .full, .notFound, .referenced, .idInUse, .tooLate,
        .notATimetablePoint, .badTolerance, .periodNotLoadable, .superseded] r)
  ∧ ∀ q : Request, q.wellFormed = true →
    readRequest (codeOf q).toNat (parameterOctets q) = some q
    ∧ (lengthsOf (codeOf q).toNat).map Prod.fst = some (parameterOctets q).length

/-- A row whose event has not come, or that finds nothing to act on, lets its time pass and changes nothing else (the model's
choice, log 2 and log 12): a timer row whose deadline or instant is absent or not reached yet, a PULSE_START that the pulse
rule does not allow, a report that tells nothing new, octets for which no frame is in flight. A MARK_TRAILING_EDGE without a
mark moves the line's level alone. -/
def Obligations.RowsThatFindNothing : Prop :=
  ∀ (s : State) (dt : Nat), s.inReset = false →
    let now := (s.advance dt).time.elapsed
    let centre := (s.advance dt).time.centre
    let nothing (c : Instr) : Prop := exec c s = .next (s.advance dt)
    let passed (d : Option Nat) : Prop := ∃ e, d = some e ∧ e ≤ now
    (∀ p, ¬ passed (s.port p).silenceDeadline → nothing (.portSilenceDeadline dt p))
    ∧ (∀ p, ((s.port p).demand = (s.port p).loop ∨ (s.port p).transmitter ≠ .idle) → nothing (.loopStateChange dt p))
    ∧ (∀ p, (s.port p).frame = none → ∀ o c,
      nothing (.telegramParse dt p o) ∧ nothing (.telegramCheck dt p c) ∧ nothing (.frameCut dt p o))
    ∧ (∀ p h, ((s.port p).up = false ∨ (s.port p).frame.isSome = true ∨ (s.port p).awaitingEnd = true) →
      nothing (.frameStart dt p h))
    ∧ (∀ p, ((s.port p).transmitter = .idle ∨ ∃ q, (s.port p).transmitter = .sending q none) →
      nothing (.lastOctetLeft dt p))
    ∧ (∀ p, (s.port p).reported = true →
      (∀ up, nothing (.firstLinkReport dt p up)) ∧ ((s.port p).up = true → nothing (.linkUp dt p))
        ∧ ((s.port p).up = false → nothing (.linkDown dt p)))
    ∧ (∀ w, (∀ m, (s.wired w).mark = some m → now ≤ m.capture.elapsed + 500000) → nothing (.markWidthLimit dt w))
    ∧ (∀ w, (s.wired w).lineActive = true → nothing (.markLeadingEdge dt w))
    ∧ (∀ w, (s.wired w).mark = none →
      exec (.markTrailingEdge dt w) s = .next ((s.advance dt).setWired w { s.wired w with lineActive := false }))
    ∧ (∀ w, ((s.wired w).collected = [] ∨ now ≤ (s.wired w).octetEnd + 5000) → nothing (.messageOctetTimeout dt w))
    ∧ (∀ x, ¬ passed (s.source x).markDeadline → nothing (.markDeadline dt x))
    ∧ (∀ x, ¬ passed (s.source x).absenceDeadline → nothing (.absenceDeadline dt x))
    ∧ (∀ x, ((s.source x).state ≠ .qualified ∨ s.refs.selected = none) → nothing (.revertInstant dt x))
    ∧ (∀ x y, s.refs.selected = some y →
      ((s.time.config.source y).priority ≤ (s.time.config.source x).priority
        ∨ ¬ passed ((s.source x).qualifiedSince.map (fun q => q + s.time.config.revertHold * 1000000))) →
      nothing (.revertInstant dt x))
    ∧ ((s.time.mode ≠ .holdover ∨ ¬ passed s.time.nextHoldover) → nothing (.holdoverSecond dt))
    ∧ ((centre ≠ 5662310399999999999 ∨ s.time.held = true) → nothing (.scaleEndHold dt))
    ∧ ((s.advance dt).time.boundary = false → nothing (.secondMarkStart dt))
    ∧ (¬ passed s.time.secondMarkEnd → nothing (.secondMarkEnd dt))
    ∧ ((∀ o, s.time.pendingOffset = some o → centre < o.instant.nanos) → nothing (.offsetChangeInstant dt))
    ∧ (∀ a, s.element a = none →
      nothing (.elementSilenceDeadline dt a) ∧ nothing (.startDeadline dt a) ∧ nothing (.runDeadline dt a)
        ∧ nothing (.settleDeadline dt a) ∧ nothing (.confirmDeadline dt a))
    ∧ (∀ a r, s.element a = some r →
      ((r.coverage ≠ .observed ∨ ¬ passed r.silenceDeadline) → nothing (.elementSilenceDeadline dt a))
        ∧ ((∀ m, r.movement = some m → m.phase ≠ .commanded ∨ now < m.startDeadline) → nothing (.startDeadline dt a))
        ∧ ((∀ m, r.movement = some m → now < m.runDeadline) → nothing (.runDeadline dt a))
        ∧ ((∀ m, r.movement = some m → m.phase ≠ .settling ∨ ¬ passed m.settleDeadline) → nothing (.settleDeadline dt a))
        ∧ ((∀ k, r.confirmation = some k → k.overdue = true ∨ now < k.deadline) → nothing (.confirmDeadline dt a)))
    ∧ ((∀ x, s.checker.schedule = some x → centre < x.instant.nanos) → nothing (.changeover dt))
    ∧ ((∀ d, s.checker.drainEnd = some d → centre < d * 1000000000) → nothing (.drainEnd dt))
    ∧ ((∀ e ∈ s.checker.store, e.state = .pending → centre < e.expiry * 1000000000) → nothing (.timetableExpiry dt))
    ∧ (∀ l,
      let x := s.line l
      let seconds : Int := ((centre % 86400000000000 / 1000000000 : Nat) + 60 * s.time.localOffset) % 86400
      let behind (n : Nat) : Nat := (seconds.toNat % 43200 / x.step + 43200 / x.step - n) % (43200 / x.step)
      (x.state ≠ .running ∨ s.time.timeSet = false ∨ x.pulse.isSome = true ∨ x.shown = none ∨ x.polarity = none
        ∨ (∃ k, x.lastStart = some k ∧ now < k + x.fast * 1000)
        ∨ ∃ n, x.shown = some n ∧ (behind n = 0 ∨ 43200 / x.step ≤ behind n + x.wait * 60 / x.step)) →
      nothing (.pulseStart dt l))
    ∧ (∀ l, (∀ p, (s.line l).pulse = some p → now < p.deadline) → nothing (.pulseEnd dt l))
    ∧ ∀ l, ¬ passed (s.line l).retryDeadline → nothing (.retryDeadline dt l)

/-! ## Relations that every step keeps -/

/-- Every relation below holds right after reset (the straps at 0 are the model's choice, log 6). -/
def Obligations.InOrderAtReset : Prop :=
  State.reset.OneLive ∧ State.reset.RecordOk ∧ State.reset.AlarmOk ∧ State.reset.TimeOk ∧ State.reset.TablesOk
    ∧ State.reset.QuietInConfig ∧ State.reset.ReferencesOk ∧ State.reset.LinesOk ∧ State.reset.PortsOk

/-- The record never holds more than 8192 entries or 7936 routine ones, and its numbers follow without a break. -/
def Obligations.RecordStaysInOrder : Prop :=
  ∀ s t : State, s.RecordOk → step s = .next t → t.RecordOk

/-- The alarm output is asserted exactly while some target holds a latched fault. -/
def Obligations.AlarmOutputFollowsLatches : Prop :=
  ∀ s t : State, s.AlarmOk → step s = .next t → t.AlarmOk

/-- One tag is LIVE, and a drain end is held exactly while a tag is DRAINING. -/
def Obligations.OneTagStaysLive : Prop :=
  ∀ s t : State, s.OneLive → step s = .next t → t.OneLive

/-- The discipline state stays in its ranges. -/
def Obligations.TimeStaysInRange : Prop :=
  ∀ s t : State, s.TimeOk → step s = .next t → t.TimeOk

/-- Both clock lines stay in order. -/
def Obligations.LinesStayInOrder : Prop :=
  ∀ s t : State, s.LinesOk → step s = .next t → t.LinesOk

/-- The tables keep their order and capacity, no context stands in CONFIG, and reference counts stay true. -/
def Obligations.TablesStayInOrder : Prop :=
  ∀ s t : State, s.TablesOk → s.QuietInConfig → s.ReferencesOk → step s = .next t →
    t.TablesOk ∧ t.QuietInConfig ∧ t.ReferencesOk
end

