-- ==== Sys2Proof/Laws/Frames.lean ====
section
/-! SUPPORT. What each shared operation leaves unchanged: one lemma for each, a conjunction of the fields of `State` it
does not write; and when a pending request takes effect. -/

namespace Sys2Proof.Laws

open Sys2Proof Sys2Proof.Machine

/-- A view that each step of a fold leaves is left by the whole fold. -/
theorem foldl_same {α β : Type} (g : State → β) (f : State → α → State) (h : ∀ s a, g (f s a) = g s) (l : List α)
    (s : State) : g (l.foldl f s) = g s := by
  induction l generalizing s with
  | nil => rfl
  | cons a l ih => simp only [List.foldl_cons]; rw [ih, h]

/-- The advance changes the time base alone. -/
@[simp] theorem advance_frame (s : State) (n : Nat) :
    (s.advance n).inReset = s.inReset
      ∧ (s.advance n).refs = s.refs
      ∧ (s.advance n).portA = s.portA
      ∧ (s.advance n).portB = s.portB
      ∧ (s.advance n).elements = s.elements
      ∧ (s.advance n).checker = s.checker
      ∧ (s.advance n).record = s.record
      ∧ (s.advance n).alarms = s.alarms
      ∧ (s.advance n).line1 = s.line1
      ∧ (s.advance n).line2 = s.line2
      ∧ (s.advance n).service = s.service
      ∧ (s.advance n).choices = s.choices
      ∧ (s.advance n).pending = s.pending := by
  exact ⟨rfl, rfl, rfl, rfl, rfl, rfl, rfl, rfl, rfl, rfl, rfl, rfl, rfl⟩

/-- The advance changes the two counts and the boundary flag of the time base alone. -/
@[simp] theorem advance_time_frame (s : State) (n : Nat) :
    (s.advance n).time.held = s.time.held
      ∧ (s.advance n).time.epoch = s.time.epoch
      ∧ (s.advance n).time.mode = s.time.mode
      ∧ (s.advance n).time.timeSet = s.time.timeSet
      ∧ (s.advance n).time.c = s.time.c
      ∧ (s.advance n).time.i = s.time.i
      ∧ (s.advance n).time.u = s.time.u
      ∧ (s.advance n).time.stepCount = s.time.stepCount
      ∧ (s.advance n).time.quality = s.time.quality
      ∧ (s.advance n).time.nextHoldover = s.time.nextHoldover
      ∧ (s.advance n).time.localOffset = s.time.localOffset
      ∧ (s.advance n).time.pendingOffset = s.time.pendingOffset
      ∧ (s.advance n).time.secondMark = s.time.secondMark
      ∧ (s.advance n).time.secondMarkEnd = s.time.secondMarkEnd
      ∧ (s.advance n).time.config = s.time.config := by
  unfold State.advance TimeBase.advance TimeBase.advanceCentre TimeBase.advanceElapsed
  by_cases h : n = 0
  · simp [h]
  · by_cases h2 : s.time.held = true <;> simp [h, h2]

/-- Writing a port changes the ports alone. -/
@[simp] theorem setPort_frame (s : State) (p : PortId) (x : Port) :
    (s.setPort p x).inReset = s.inReset
      ∧ (s.setPort p x).time = s.time
      ∧ (s.setPort p x).refs = s.refs
      ∧ (s.setPort p x).elements = s.elements
      ∧ (s.setPort p x).checker = s.checker
      ∧ (s.setPort p x).record = s.record
      ∧ (s.setPort p x).alarms = s.alarms
      ∧ (s.setPort p x).line1 = s.line1
      ∧ (s.setPort p x).line2 = s.line2
      ∧ (s.setPort p x).service = s.service
      ∧ (s.setPort p x).choices = s.choices
      ∧ (s.setPort p x).pending = s.pending := by
  cases p <;> simp [State.setPort]

/-- Changing a port changes the ports alone. -/
@[simp] theorem modifyPort_frame (s : State) (p : PortId) (f : Port → Port) :
    (s.modifyPort p f).inReset = s.inReset
      ∧ (s.modifyPort p f).time = s.time
      ∧ (s.modifyPort p f).refs = s.refs
      ∧ (s.modifyPort p f).elements = s.elements
      ∧ (s.modifyPort p f).checker = s.checker
      ∧ (s.modifyPort p f).record = s.record
      ∧ (s.modifyPort p f).alarms = s.alarms
      ∧ (s.modifyPort p f).line1 = s.line1
      ∧ (s.modifyPort p f).line2 = s.line2
      ∧ (s.modifyPort p f).service = s.service
      ∧ (s.modifyPort p f).choices = s.choices
      ∧ (s.modifyPort p f).pending = s.pending := by
  simp [State.modifyPort]

/-- Writing a line changes the lines alone. -/
@[simp] theorem setLine_frame (s : State) (l : LineId) (x : Line) :
    (s.setLine l x).inReset = s.inReset
      ∧ (s.setLine l x).time = s.time
      ∧ (s.setLine l x).refs = s.refs
      ∧ (s.setLine l x).portA = s.portA
      ∧ (s.setLine l x).portB = s.portB
      ∧ (s.setLine l x).elements = s.elements
      ∧ (s.setLine l x).checker = s.checker
      ∧ (s.setLine l x).record = s.record
      ∧ (s.setLine l x).alarms = s.alarms
      ∧ (s.setLine l x).service = s.service
      ∧ (s.setLine l x).choices = s.choices
      ∧ (s.setLine l x).pending = s.pending := by
  cases l <;> simp [State.setLine]

/-- Changing a line changes the lines alone. -/
@[simp] theorem modifyLine_frame (s : State) (l : LineId) (f : Line → Line) :
    (s.modifyLine l f).inReset = s.inReset
      ∧ (s.modifyLine l f).time = s.time
      ∧ (s.modifyLine l f).refs = s.refs
      ∧ (s.modifyLine l f).portA = s.portA
      ∧ (s.modifyLine l f).portB = s.portB
      ∧ (s.modifyLine l f).elements = s.elements
      ∧ (s.modifyLine l f).checker = s.checker
      ∧ (s.modifyLine l f).record = s.record
      ∧ (s.modifyLine l f).alarms = s.alarms
      ∧ (s.modifyLine l f).service = s.service
      ∧ (s.modifyLine l f).choices = s.choices
      ∧ (s.modifyLine l f).pending = s.pending := by
  simp [State.modifyLine]

/-- Writing a source changes the selector alone. -/
@[simp] theorem setSource_frame (s : State) (x : Source) (v : SourceState) :
    (s.setSource x v).inReset = s.inReset
      ∧ (s.setSource x v).time = s.time
      ∧ (s.setSource x v).portA = s.portA
      ∧ (s.setSource x v).portB = s.portB
      ∧ (s.setSource x v).elements = s.elements
      ∧ (s.setSource x v).checker = s.checker
      ∧ (s.setSource x v).record = s.record
      ∧ (s.setSource x v).alarms = s.alarms
      ∧ (s.setSource x v).line1 = s.line1
      ∧ (s.setSource x v).line2 = s.line2
      ∧ (s.setSource x v).service = s.service
      ∧ (s.setSource x v).choices = s.choices
      ∧ (s.setSource x v).pending = s.pending := by
  cases x <;> simp [State.setSource]

/-- Writing a wired reference's lines changes the selector alone. -/
@[simp] theorem setWired_frame (s : State) (w : Wired) (v : WiredState) :
    (s.setWired w v).inReset = s.inReset
      ∧ (s.setWired w v).time = s.time
      ∧ (s.setWired w v).portA = s.portA
      ∧ (s.setWired w v).portB = s.portB
      ∧ (s.setWired w v).elements = s.elements
      ∧ (s.setWired w v).checker = s.checker
      ∧ (s.setWired w v).record = s.record
      ∧ (s.setWired w v).alarms = s.alarms
      ∧ (s.setWired w v).line1 = s.line1
      ∧ (s.setWired w v).line2 = s.line2
      ∧ (s.setWired w v).service = s.service
      ∧ (s.setWired w v).choices = s.choices
      ∧ (s.setWired w v).pending = s.pending := by
  cases w <;> simp [State.setWired]

/-- Changing a record changes the element table alone. -/
@[simp] theorem modifyElement_frame (s : State) (a : Nat) (f : ElementRecord → ElementRecord) :
    (s.modifyElement a f).inReset = s.inReset
      ∧ (s.modifyElement a f).time = s.time
      ∧ (s.modifyElement a f).refs = s.refs
      ∧ (s.modifyElement a f).portA = s.portA
      ∧ (s.modifyElement a f).portB = s.portB
      ∧ (s.modifyElement a f).checker = s.checker
      ∧ (s.modifyElement a f).record = s.record
      ∧ (s.modifyElement a f).alarms = s.alarms
      ∧ (s.modifyElement a f).line1 = s.line1
      ∧ (s.modifyElement a f).line2 = s.line2
      ∧ (s.modifyElement a f).service = s.service
      ∧ (s.modifyElement a f).choices = s.choices
      ∧ (s.modifyElement a f).pending = s.pending := by
  exact ⟨rfl, rfl, rfl, rfl, rfl, rfl, rfl, rfl, rfl, rfl, rfl, rfl, rfl⟩

/-- Changing a timetable entry changes the checker alone. -/
@[simp] theorem modifyEntry_frame (s : State) (i : Nat) (f : TimetableEntry → TimetableEntry) :
    (s.modifyEntry i f).inReset = s.inReset
      ∧ (s.modifyEntry i f).time = s.time
      ∧ (s.modifyEntry i f).refs = s.refs
      ∧ (s.modifyEntry i f).portA = s.portA
      ∧ (s.modifyEntry i f).portB = s.portB
      ∧ (s.modifyEntry i f).elements = s.elements
      ∧ (s.modifyEntry i f).record = s.record
      ∧ (s.modifyEntry i f).alarms = s.alarms
      ∧ (s.modifyEntry i f).line1 = s.line1
      ∧ (s.modifyEntry i f).line2 = s.line2
      ∧ (s.modifyEntry i f).service = s.service
      ∧ (s.modifyEntry i f).choices = s.choices
      ∧ (s.modifyEntry i f).pending = s.pending := by
  exact ⟨rfl, rfl, rfl, rfl, rfl, rfl, rfl, rfl, rfl, rfl, rfl, rfl, rfl⟩

/-- Writing a tag's state changes the checker alone. -/
@[simp] theorem setTag_frame (s : State) (p : Period) (t : TagState) :
    (s.setTag p t).inReset = s.inReset
      ∧ (s.setTag p t).time = s.time
      ∧ (s.setTag p t).refs = s.refs
      ∧ (s.setTag p t).portA = s.portA
      ∧ (s.setTag p t).portB = s.portB
      ∧ (s.setTag p t).elements = s.elements
      ∧ (s.setTag p t).record = s.record
      ∧ (s.setTag p t).alarms = s.alarms
      ∧ (s.setTag p t).line1 = s.line1
      ∧ (s.setTag p t).line2 = s.line2
      ∧ (s.setTag p t).service = s.service
      ∧ (s.setTag p t).choices = s.choices
      ∧ (s.setTag p t).pending = s.pending := by
  cases p <;> simp [State.setTag]

/-- Writing a latched fault changes the element table and the alarm unit alone. -/
@[simp] theorem setLatch_frame (s : State) (t : LatchTarget) (x : Option Latched) :
    (s.setLatch t x).inReset = s.inReset
      ∧ (s.setLatch t x).time = s.time
      ∧ (s.setLatch t x).refs = s.refs
      ∧ (s.setLatch t x).portA = s.portA
      ∧ (s.setLatch t x).portB = s.portB
      ∧ (s.setLatch t x).checker = s.checker
      ∧ (s.setLatch t x).record = s.record
      ∧ (s.setLatch t x).line1 = s.line1
      ∧ (s.setLatch t x).line2 = s.line2
      ∧ (s.setLatch t x).service = s.service
      ∧ (s.setLatch t x).choices = s.choices
      ∧ (s.setLatch t x).pending = s.pending := by
  rcases t with a | _ | l | p
  · simp [State.setLatch]
  · simp [State.setLatch]
  · cases l <;> simp [State.setLatch]
  · cases p <;> simp [State.setLatch]

/-- Evaluating the alarm output changes the alarm unit alone. -/
@[simp] theorem evalAlarm_frame (s : State) :
    (s.evalAlarm).inReset = s.inReset
      ∧ (s.evalAlarm).time = s.time
      ∧ (s.evalAlarm).refs = s.refs
      ∧ (s.evalAlarm).portA = s.portA
      ∧ (s.evalAlarm).portB = s.portB
      ∧ (s.evalAlarm).elements = s.elements
      ∧ (s.evalAlarm).checker = s.checker
      ∧ (s.evalAlarm).record = s.record
      ∧ (s.evalAlarm).line1 = s.line1
      ∧ (s.evalAlarm).line2 = s.line2
      ∧ (s.evalAlarm).service = s.service
      ∧ (s.evalAlarm).choices = s.choices
      ∧ (s.evalAlarm).pending = s.pending := by
  exact ⟨rfl, rfl, rfl, rfl, rfl, rfl, rfl, rfl, rfl, rfl, rfl, rfl, rfl⟩

/-- A latch changes the element table and the alarm unit alone. -/
@[simp] theorem latch_frame (s : State) (t : LatchTarget) (k : LatchKind) (c : Capture) :
    (s.latch t k c).inReset = s.inReset
      ∧ (s.latch t k c).time = s.time
      ∧ (s.latch t k c).refs = s.refs
      ∧ (s.latch t k c).portA = s.portA
      ∧ (s.latch t k c).portB = s.portB
      ∧ (s.latch t k c).checker = s.checker
      ∧ (s.latch t k c).record = s.record
      ∧ (s.latch t k c).line1 = s.line1
      ∧ (s.latch t k c).line2 = s.line2
      ∧ (s.latch t k c).service = s.service
      ∧ (s.latch t k c).choices = s.choices
      ∧ (s.latch t k c).pending = s.pending := by
  unfold State.latch
  split <;> simp

/-- An admission changes the record alone. -/
@[simp] theorem enrol_frame (s : State) (d : Draft) :
    (s.enrol d).inReset = s.inReset
      ∧ (s.enrol d).time = s.time
      ∧ (s.enrol d).refs = s.refs
      ∧ (s.enrol d).portA = s.portA
      ∧ (s.enrol d).portB = s.portB
      ∧ (s.enrol d).elements = s.elements
      ∧ (s.enrol d).checker = s.checker
      ∧ (s.enrol d).alarms = s.alarms
      ∧ (s.enrol d).line1 = s.line1
      ∧ (s.enrol d).line2 = s.line2
      ∧ (s.enrol d).service = s.service
      ∧ (s.enrol d).choices = s.choices
      ∧ (s.enrol d).pending = s.pending := by
  exact ⟨rfl, rfl, rfl, rfl, rfl, rfl, rfl, rfl, rfl, rfl, rfl, rfl, rfl⟩

/-- A lost entry changes the record alone. -/
@[simp] theorem tallyLost_frame (s : State) (d : Draft) :
    (s.tallyLost d).inReset = s.inReset
      ∧ (s.tallyLost d).time = s.time
      ∧ (s.tallyLost d).refs = s.refs
      ∧ (s.tallyLost d).portA = s.portA
      ∧ (s.tallyLost d).portB = s.portB
      ∧ (s.tallyLost d).elements = s.elements
      ∧ (s.tallyLost d).checker = s.checker
      ∧ (s.tallyLost d).alarms = s.alarms
      ∧ (s.tallyLost d).line1 = s.line1
      ∧ (s.tallyLost d).line2 = s.line2
      ∧ (s.tallyLost d).service = s.service
      ∧ (s.tallyLost d).choices = s.choices
      ∧ (s.tallyLost d).pending = s.pending := by
  exact ⟨rfl, rfl, rfl, rfl, rfl, rfl, rfl, rfl, rfl, rfl, rfl, rfl, rfl⟩

/-- A GAP entry changes the record alone. -/
@[simp] theorem writeGap_frame (s : State) :
    (s.writeGap).inReset = s.inReset
      ∧ (s.writeGap).time = s.time
      ∧ (s.writeGap).refs = s.refs
      ∧ (s.writeGap).portA = s.portA
      ∧ (s.writeGap).portB = s.portB
      ∧ (s.writeGap).elements = s.elements
      ∧ (s.writeGap).checker = s.checker
      ∧ (s.writeGap).alarms = s.alarms
      ∧ (s.writeGap).line1 = s.line1
      ∧ (s.writeGap).line2 = s.line2
      ∧ (s.writeGap).service = s.service
      ∧ (s.writeGap).choices = s.choices
      ∧ (s.writeGap).pending = s.pending := by
  unfold State.writeGap
  split <;> simp

/-- The GAP rule changes the record alone. -/
@[simp] theorem gapRule_frame (s : State) :
    (s.gapRule).inReset = s.inReset
      ∧ (s.gapRule).time = s.time
      ∧ (s.gapRule).refs = s.refs
      ∧ (s.gapRule).portA = s.portA
      ∧ (s.gapRule).portB = s.portB
      ∧ (s.gapRule).elements = s.elements
      ∧ (s.gapRule).checker = s.checker
      ∧ (s.gapRule).alarms = s.alarms
      ∧ (s.gapRule).line1 = s.line1
      ∧ (s.gapRule).line2 = s.line2
      ∧ (s.gapRule).service = s.service
      ∧ (s.gapRule).choices = s.choices
      ∧ (s.gapRule).pending = s.pending := by
  unfold State.gapRule
  split <;> simp

/-- An admission attempt changes the record alone. -/
@[simp] theorem attempt_frame (s : State) (d : Draft) :
    (s.attempt d).inReset = s.inReset
      ∧ (s.attempt d).time = s.time
      ∧ (s.attempt d).refs = s.refs
      ∧ (s.attempt d).portA = s.portA
      ∧ (s.attempt d).portB = s.portB
      ∧ (s.attempt d).elements = s.elements
      ∧ (s.attempt d).checker = s.checker
      ∧ (s.attempt d).alarms = s.alarms
      ∧ (s.attempt d).line1 = s.line1
      ∧ (s.attempt d).line2 = s.line2
      ∧ (s.attempt d).service = s.service
      ∧ (s.attempt d).choices = s.choices
      ∧ (s.attempt d).pending = s.pending := by
  unfold State.attempt
  by_cases h : d.alarm <;> simp only [h, if_true, if_false, Bool.false_eq_true] <;> split <;> simp

/-- A noted entry changes the record alone. -/
@[simp] theorem note_frame (s : State) (c : Capture) (b : EntryBody) (a : Bool) :
    (s.note c b a).inReset = s.inReset
      ∧ (s.note c b a).time = s.time
      ∧ (s.note c b a).refs = s.refs
      ∧ (s.note c b a).portA = s.portA
      ∧ (s.note c b a).portB = s.portB
      ∧ (s.note c b a).elements = s.elements
      ∧ (s.note c b a).checker = s.checker
      ∧ (s.note c b a).alarms = s.alarms
      ∧ (s.note c b a).line1 = s.line1
      ∧ (s.note c b a).line2 = s.line2
      ∧ (s.note c b a).service = s.service
      ∧ (s.note c b a).choices = s.choices
      ∧ (s.note c b a).pending = s.pending := by
  simp [State.note]

/-- A raise changes the record, the alarm unit and the element table's latches alone. -/
@[simp] theorem raise_frame (s : State) (r : Raise) :
    (s.raise r).inReset = s.inReset
      ∧ (s.raise r).time = s.time
      ∧ (s.raise r).refs = s.refs
      ∧ (s.raise r).portA = s.portA
      ∧ (s.raise r).portB = s.portB
      ∧ (s.raise r).checker = s.checker
      ∧ (s.raise r).line1 = s.line1
      ∧ (s.raise r).line2 = s.line2
      ∧ (s.raise r).service = s.service
      ∧ (s.raise r).choices = s.choices
      ∧ (s.raise r).pending = s.pending := by
  unfold State.raise
  split <;> simp

/-- A fault of an element changes what a raise changes. -/
@[simp] theorem elementFault_frame (s : State) (a : Nat) (c : Capture) (d : FaultDetail) (t : Bool) :
    (s.elementFault a c d t).inReset = s.inReset
      ∧ (s.elementFault a c d t).time = s.time
      ∧ (s.elementFault a c d t).refs = s.refs
      ∧ (s.elementFault a c d t).portA = s.portA
      ∧ (s.elementFault a c d t).portB = s.portB
      ∧ (s.elementFault a c d t).checker = s.checker
      ∧ (s.elementFault a c d t).line1 = s.line1
      ∧ (s.elementFault a c d t).line2 = s.line2
      ∧ (s.elementFault a c d t).service = s.service
      ∧ (s.elementFault a c d t).choices = s.choices
      ∧ (s.elementFault a c d t).pending = s.pending := by
  simp [State.elementFault]

/-- A verdict changes what a raise changes. -/
@[simp] theorem verdict_frame (s : State) (c : Capture) (v : VerdictEntry) :
    (s.verdict c v).inReset = s.inReset
      ∧ (s.verdict c v).time = s.time
      ∧ (s.verdict c v).refs = s.refs
      ∧ (s.verdict c v).portA = s.portA
      ∧ (s.verdict c v).portB = s.portB
      ∧ (s.verdict c v).checker = s.checker
      ∧ (s.verdict c v).line1 = s.line1
      ∧ (s.verdict c v).line2 = s.line2
      ∧ (s.verdict c v).service = s.service
      ∧ (s.verdict c v).choices = s.choices
      ∧ (s.verdict c v).pending = s.pending := by
  unfold State.verdict
  split <;> simp

/-- A withdrawal changes the checker and what a raise changes. -/
@[simp] theorem withdraw_frame (s : State) (e : TimetableEntry) (r : WithdrawReason) :
    (s.withdraw e r).inReset = s.inReset
      ∧ (s.withdraw e r).time = s.time
      ∧ (s.withdraw e r).refs = s.refs
      ∧ (s.withdraw e r).portA = s.portA
      ∧ (s.withdraw e r).portB = s.portB
      ∧ (s.withdraw e r).line1 = s.line1
      ∧ (s.withdraw e r).line2 = s.line2
      ∧ (s.withdraw e r).service = s.service
      ∧ (s.withdraw e r).choices = s.choices
      ∧ (s.withdraw e r).pending = s.pending := by
  simp [State.withdraw]

/-- A train event changes the checker and what a raise changes. -/
@[simp] theorem trainEvent_frame (s : State) (v : TrainEvent) :
    (s.trainEvent v).inReset = s.inReset
      ∧ (s.trainEvent v).time = s.time
      ∧ (s.trainEvent v).refs = s.refs
      ∧ (s.trainEvent v).portA = s.portA
      ∧ (s.trainEvent v).portB = s.portB
      ∧ (s.trainEvent v).line1 = s.line1
      ∧ (s.trainEvent v).line2 = s.line2
      ∧ (s.trainEvent v).service = s.service
      ∧ (s.trainEvent v).choices = s.choices
      ∧ (s.trainEvent v).pending = s.pending := by
  unfold State.trainEvent
  dsimp only
  split <;> simp

/-- An expiry changes the checker and what a raise changes. -/
@[simp] theorem expireEntry_frame (s : State) (e : TimetableEntry) :
    (s.expireEntry e).inReset = s.inReset
      ∧ (s.expireEntry e).time = s.time
      ∧ (s.expireEntry e).refs = s.refs
      ∧ (s.expireEntry e).portA = s.portA
      ∧ (s.expireEntry e).portB = s.portB
      ∧ (s.expireEntry e).line1 = s.line1
      ∧ (s.expireEntry e).line2 = s.line2
      ∧ (s.expireEntry e).service = s.service
      ∧ (s.expireEntry e).choices = s.choices
      ∧ (s.expireEntry e).pending = s.pending := by
  unfold State.expireEntry
  split <;> simp

/-- Expiries change the checker and what a raise changes. -/
@[simp] theorem foldExpire_frame (s : State) (l : List TimetableEntry) :
    (l.foldl State.expireEntry s).inReset = s.inReset
      ∧ (l.foldl State.expireEntry s).time = s.time
      ∧ (l.foldl State.expireEntry s).refs = s.refs
      ∧ (l.foldl State.expireEntry s).portA = s.portA
      ∧ (l.foldl State.expireEntry s).portB = s.portB
      ∧ (l.foldl State.expireEntry s).line1 = s.line1
      ∧ (l.foldl State.expireEntry s).line2 = s.line2
      ∧ (l.foldl State.expireEntry s).service = s.service
      ∧ (l.foldl State.expireEntry s).choices = s.choices
      ∧ (l.foldl State.expireEntry s).pending = s.pending := by
  refine ⟨?_, ?_, ?_, ?_, ?_, ?_, ?_, ?_, ?_, ?_⟩ <;> exact foldl_same _ _ (by simp) l s

/-- Taking expiry changes the checker and what a raise changes. -/
@[simp] theorem expireDue_frame (s : State) :
    (s.expireDue).inReset = s.inReset
      ∧ (s.expireDue).time = s.time
      ∧ (s.expireDue).refs = s.refs
      ∧ (s.expireDue).portA = s.portA
      ∧ (s.expireDue).portB = s.portB
      ∧ (s.expireDue).line1 = s.line1
      ∧ (s.expireDue).line2 = s.line2
      ∧ (s.expireDue).service = s.service
      ∧ (s.expireDue).choices = s.choices
      ∧ (s.expireDue).pending = s.pending := by
  unfold State.expireDue
  split <;> simp

/-- The withdrawals of a drain end change the checker and what a raise changes. -/
@[simp] theorem foldDrain_frame (s : State) (l : List TimetableEntry) :
    (l.foldl (fun x e => x.withdraw e .drainEnd) s).inReset = s.inReset
      ∧ (l.foldl (fun x e => x.withdraw e .drainEnd) s).time = s.time
      ∧ (l.foldl (fun x e => x.withdraw e .drainEnd) s).refs = s.refs
      ∧ (l.foldl (fun x e => x.withdraw e .drainEnd) s).portA = s.portA
      ∧ (l.foldl (fun x e => x.withdraw e .drainEnd) s).portB = s.portB
      ∧ (l.foldl (fun x e => x.withdraw e .drainEnd) s).line1 = s.line1
      ∧ (l.foldl (fun x e => x.withdraw e .drainEnd) s).line2 = s.line2
      ∧ (l.foldl (fun x e => x.withdraw e .drainEnd) s).service = s.service
      ∧ (l.foldl (fun x e => x.withdraw e .drainEnd) s).choices = s.choices
      ∧ (l.foldl (fun x e => x.withdraw e .drainEnd) s).pending = s.pending := by
  refine ⟨?_, ?_, ?_, ?_, ?_, ?_, ?_, ?_, ?_, ?_⟩ <;> exact foldl_same _ _ (by simp) l s

/-- The drain end changes the checker and what a raise changes. -/
@[simp] theorem takeDrainEnd_frame (s : State) :
    (s.takeDrainEnd).inReset = s.inReset
      ∧ (s.takeDrainEnd).time = s.time
      ∧ (s.takeDrainEnd).refs = s.refs
      ∧ (s.takeDrainEnd).portA = s.portA
      ∧ (s.takeDrainEnd).portB = s.portB
      ∧ (s.takeDrainEnd).line1 = s.line1
      ∧ (s.takeDrainEnd).line2 = s.line2
      ∧ (s.takeDrainEnd).service = s.service
      ∧ (s.takeDrainEnd).choices = s.choices
      ∧ (s.takeDrainEnd).pending = s.pending := by
  unfold State.takeDrainEnd State.drainTag
  split
  · split <;> simp
  · simp

/-- The changeover changes the checker and what a raise changes. -/
@[simp] theorem takeChangeover_frame (s : State) :
    (s.takeChangeover).inReset = s.inReset
      ∧ (s.takeChangeover).time = s.time
      ∧ (s.takeChangeover).refs = s.refs
      ∧ (s.takeChangeover).portA = s.portA
      ∧ (s.takeChangeover).portB = s.portB
      ∧ (s.takeChangeover).line1 = s.line1
      ∧ (s.takeChangeover).line2 = s.line2
      ∧ (s.takeChangeover).service = s.service
      ∧ (s.takeChangeover).choices = s.choices
      ∧ (s.takeChangeover).pending = s.pending := by
  unfold State.takeChangeover
  split
  · split <;> simp
  · simp

/-- An evaluation of quality changes the time base and what a raise changes. -/
@[simp] theorem evalQuality_frame (s : State) :
    (s.evalQuality).inReset = s.inReset
      ∧ (s.evalQuality).refs = s.refs
      ∧ (s.evalQuality).portA = s.portA
      ∧ (s.evalQuality).portB = s.portB
      ∧ (s.evalQuality).checker = s.checker
      ∧ (s.evalQuality).line1 = s.line1
      ∧ (s.evalQuality).line2 = s.line2
      ∧ (s.evalQuality).service = s.service
      ∧ (s.evalQuality).choices = s.choices
      ∧ (s.evalQuality).pending = s.pending := by
  unfold State.evalQuality State.qualityEntry
  split
  · simp
  · dsimp only
    split <;> simp

/-- An evaluation of quality with the expiry it releases changes the time base, the checker and what a raise changes. -/
@[simp] theorem settleQuality_frame (s : State) :
    (s.settleQuality).inReset = s.inReset
      ∧ (s.settleQuality).refs = s.refs
      ∧ (s.settleQuality).portA = s.portA
      ∧ (s.settleQuality).portB = s.portB
      ∧ (s.settleQuality).line1 = s.line1
      ∧ (s.settleQuality).line2 = s.line2
      ∧ (s.settleQuality).service = s.service
      ∧ (s.settleQuality).choices = s.choices
      ∧ (s.settleQuality).pending = s.pending := by
  unfold State.settleQuality
  dsimp only
  split <;> simp

/-- A pending offset change changes the time base and the record alone. -/
@[simp] theorem takeOffset_frame (s : State) :
    (s.takeOffset).inReset = s.inReset
      ∧ (s.takeOffset).refs = s.refs
      ∧ (s.takeOffset).portA = s.portA
      ∧ (s.takeOffset).portB = s.portB
      ∧ (s.takeOffset).elements = s.elements
      ∧ (s.takeOffset).checker = s.checker
      ∧ (s.takeOffset).alarms = s.alarms
      ∧ (s.takeOffset).line1 = s.line1
      ∧ (s.takeOffset).line2 = s.line2
      ∧ (s.takeOffset).service = s.service
      ∧ (s.takeOffset).choices = s.choices
      ∧ (s.takeOffset).pending = s.pending := by
  unfold State.takeOffset
  split
  · split <;> simp
  · simp

/-- Writing a movement context changes the element table alone. -/
@[simp] theorem setMovement_frame (s : State) (a : Nat) (m : Option Movement) :
    (s.setMovement a m).inReset = s.inReset
      ∧ (s.setMovement a m).time = s.time
      ∧ (s.setMovement a m).refs = s.refs
      ∧ (s.setMovement a m).portA = s.portA
      ∧ (s.setMovement a m).portB = s.portB
      ∧ (s.setMovement a m).checker = s.checker
      ∧ (s.setMovement a m).record = s.record
      ∧ (s.setMovement a m).alarms = s.alarms
      ∧ (s.setMovement a m).line1 = s.line1
      ∧ (s.setMovement a m).line2 = s.line2
      ∧ (s.setMovement a m).service = s.service
      ∧ (s.setMovement a m).choices = s.choices
      ∧ (s.setMovement a m).pending = s.pending := by
  exact ⟨rfl, rfl, rfl, rfl, rfl, rfl, rfl, rfl, rfl, rfl, rfl, rfl, rfl⟩

/-- The end of a movement changes the element table and the record alone. -/
@[simp] theorem endMovement_frame (s : State) (a : Nat) (m : Movement) (o : MovementOutcome) (c : Capture) (d : Option Nat) (f : Option ActionKind) :
    (s.endMovement a m o c d f).inReset = s.inReset
      ∧ (s.endMovement a m o c d f).time = s.time
      ∧ (s.endMovement a m o c d f).refs = s.refs
      ∧ (s.endMovement a m o c d f).portA = s.portA
      ∧ (s.endMovement a m o c d f).portB = s.portB
      ∧ (s.endMovement a m o c d f).checker = s.checker
      ∧ (s.endMovement a m o c d f).alarms = s.alarms
      ∧ (s.endMovement a m o c d f).line1 = s.line1
      ∧ (s.endMovement a m o c d f).line2 = s.line2
      ∧ (s.endMovement a m o c d f).service = s.service
      ∧ (s.endMovement a m o c d f).choices = s.choices
      ∧ (s.endMovement a m o c d f).pending = s.pending := by
  simp [State.endMovement]

/-- A change of loop state changes the port and the record alone. -/
@[simp] theorem applyLoop_frame (s : State) (p : PortId) :
    (s.applyLoop p).inReset = s.inReset
      ∧ (s.applyLoop p).time = s.time
      ∧ (s.applyLoop p).refs = s.refs
      ∧ (s.applyLoop p).elements = s.elements
      ∧ (s.applyLoop p).checker = s.checker
      ∧ (s.applyLoop p).alarms = s.alarms
      ∧ (s.applyLoop p).line1 = s.line1
      ∧ (s.applyLoop p).line2 = s.line2
      ∧ (s.applyLoop p).service = s.service
      ∧ (s.applyLoop p).choices = s.choices
      ∧ (s.applyLoop p).pending = s.pending := by
  unfold State.applyLoop
  dsimp only
  split <;> simp

/-- A renewal of silence changes the port and the record alone. -/
@[simp] theorem renewSilence_frame (s : State) (p : PortId) :
    (s.renewSilence p).inReset = s.inReset
      ∧ (s.renewSilence p).time = s.time
      ∧ (s.renewSilence p).refs = s.refs
      ∧ (s.renewSilence p).elements = s.elements
      ∧ (s.renewSilence p).checker = s.checker
      ∧ (s.renewSilence p).alarms = s.alarms
      ∧ (s.renewSilence p).line1 = s.line1
      ∧ (s.renewSilence p).line2 = s.line2
      ∧ (s.renewSilence p).service = s.service
      ∧ (s.renewSilence p).choices = s.choices
      ∧ (s.renewSilence p).pending = s.pending := by
  unfold State.renewSilence
  dsimp only
  split <;> simp

/-- An ACKNOWLEDGE RECORD that reached its commit always takes effect. -/
@[simp] theorem applyRequest_acknowledgeRecord (s : State) (n : Word32) :
    s.applyRequest (.acknowledgeRecord n) = s.acknowledgeRecord n := rfl

/-- A request that stands at its commit takes effect. -/
theorem applyRequest_of_stands (s : State) (r : Request) (h : s.standsAtCommit r = true) :
    s.applyRequest r = s.effect r := if_pos h

/-- A request that no longer stands at its commit changes nothing. -/
theorem applyRequest_of_not_stands (s : State) (r : Request) (h : s.standsAtCommit r = false) :
    s.applyRequest r = s := if_neg (by simp [h])

end Sys2Proof.Laws
end

