-- ==== Sys2Proof/Laws/PerInstr.lean ====
section
/-! SUPPORT. The family of statements about service rows as syntax, case by case over `Instr`. -/

namespace Sys2Proof.Laws.ServiceRows

open Sys2Proof

/-- A row that carries a service request comes when its telegram comes, and is well formed when its request is (R189,
R191). -/
def Statement (i : Instr) : Prop :=
  ∀ t q, i.request = some (t, q) → i.delay = t.dt ∧ i.wellFormed = q.wellFormed

/-- The statement for power on. -/
theorem powerOn (straps : Byte) : Statement (.powerOn straps) := by
  intro t q h
  cases h

/-- The statement for reset assert. -/
theorem resetAssert : Statement .resetAssert := by
  intro t q h
  cases h

/-- The statement for first link report. -/
theorem firstLinkReport (dt : Nat) (p : PortId) (up : Bool) : Statement (.firstLinkReport dt p up) := by
  intro t q h
  cases h

/-- The statement for link down. -/
theorem linkDown (dt : Nat) (p : PortId) : Statement (.linkDown dt p) := by
  intro t q h
  cases h

/-- The statement for link up. -/
theorem linkUp (dt : Nat) (p : PortId) : Statement (.linkUp dt p) := by
  intro t q h
  cases h

/-- The statement for loop state change. -/
theorem loopStateChange (dt : Nat) (p : PortId) : Statement (.loopStateChange dt p) := by
  intro t q h
  cases h

/-- The statement for frame start. -/
theorem frameStart (dt : Nat) (p : PortId) (head : List Byte) : Statement (.frameStart dt p head) := by
  intro t q h
  cases h

/-- The statement for telegram parse. -/
theorem telegramParse (dt : Nat) (p : PortId) (octets : List Byte) : Statement (.telegramParse dt p octets) := by
  intro t q h
  cases h

/-- The statement for telegram check. -/
theorem telegramCheck (dt : Nat) (p : PortId) (check : Word16) : Statement (.telegramCheck dt p check) := by
  intro t q h
  cases h

/-- The statement for frame cut. -/
theorem frameCut (dt : Nat) (p : PortId) (octets : List Byte) : Statement (.frameCut dt p octets) := by
  intro t q h
  cases h

/-- The statement for frame end. -/
theorem frameEnd (dt : Nat) (p : PortId) (octets : List Byte) : Statement (.frameEnd dt p octets) := by
  intro t q h
  cases h

/-- The statement for port silence deadline. -/
theorem portSilenceDeadline (dt : Nat) (p : PortId) : Statement (.portSilenceDeadline dt p) := by
  intro t q h
  cases h

/-- The statement for reference message. -/
theorem referenceMessage (dt : Nat) (w : Wired) (octets : List Byte) : Statement (.referenceMessage dt w octets) := by
  intro t q h
  cases h

/-- The statement for message octet timeout. -/
theorem messageOctetTimeout (dt : Nat) (w : Wired) : Statement (.messageOctetTimeout dt w) := by
  intro t q h
  cases h

/-- The statement for message framing error. -/
theorem messageFramingError (dt : Nat) (w : Wired) : Statement (.messageFramingError dt w) := by
  intro t q h
  cases h

/-- The statement for mark leading edge. -/
theorem markLeadingEdge (dt : Nat) (w : Wired) : Statement (.markLeadingEdge dt w) := by
  intro t q h
  cases h

/-- The statement for mark trailing edge. -/
theorem markTrailingEdge (dt : Nat) (w : Wired) : Statement (.markTrailingEdge dt w) := by
  intro t q h
  cases h

/-- The statement for mark width limit. -/
theorem markWidthLimit (dt : Nat) (w : Wired) : Statement (.markWidthLimit dt w) := by
  intro t q h
  cases h

/-- The statement for mark deadline. -/
theorem markDeadline (dt : Nat) (src : Source) : Statement (.markDeadline dt src) := by
  intro t q h
  cases h

/-- The statement for absence deadline. -/
theorem absenceDeadline (dt : Nat) (src : Source) : Statement (.absenceDeadline dt src) := by
  intro t q h
  cases h

/-- The statement for revert instant. -/
theorem revertInstant (dt : Nat) (src : Source) : Statement (.revertInstant dt src) := by
  intro t q h
  cases h

/-- The statement for holdover second. -/
theorem holdoverSecond (dt : Nat) : Statement (.holdoverSecond dt) := by
  intro t q h
  cases h

/-- The statement for scale end hold. -/
theorem scaleEndHold (dt : Nat) : Statement (.scaleEndHold dt) := by
  intro t q h
  cases h

/-- The statement for second mark start. -/
theorem secondMarkStart (dt : Nat) : Statement (.secondMarkStart dt) := by
  intro t q h
  cases h

/-- The statement for second mark end. -/
theorem secondMarkEnd (dt : Nat) : Statement (.secondMarkEnd dt) := by
  intro t q h
  cases h

/-- The statement for offset change instant. -/
theorem offsetChangeInstant (dt : Nat) : Statement (.offsetChangeInstant dt) := by
  intro t q h
  cases h

/-- The statement for element silence deadline. -/
theorem elementSilenceDeadline (dt : Nat) (address : Nat) : Statement (.elementSilenceDeadline dt address) := by
  intro t q h
  cases h

/-- The statement for start deadline. -/
theorem startDeadline (dt : Nat) (address : Nat) : Statement (.startDeadline dt address) := by
  intro t q h
  cases h

/-- The statement for run deadline. -/
theorem runDeadline (dt : Nat) (address : Nat) : Statement (.runDeadline dt address) := by
  intro t q h
  cases h

/-- The statement for settle deadline. -/
theorem settleDeadline (dt : Nat) (address : Nat) : Statement (.settleDeadline dt address) := by
  intro t q h
  cases h

/-- The statement for confirm deadline. -/
theorem confirmDeadline (dt : Nat) (address : Nat) : Statement (.confirmDeadline dt address) := by
  intro t q h
  cases h

/-- The statement for changeover. -/
theorem changeover (dt : Nat) : Statement (.changeover dt) := by
  intro t q h
  cases h

/-- The statement for drain end. -/
theorem drainEnd (dt : Nat) : Statement (.drainEnd dt) := by
  intro t q h
  cases h

/-- The statement for timetable expiry. -/
theorem timetableExpiry (dt : Nat) : Statement (.timetableExpiry dt) := by
  intro t q h
  cases h

/-- The statement for pulse start. -/
theorem pulseStart (dt : Nat) (l : LineId) : Statement (.pulseStart dt l) := by
  intro t q h
  cases h

/-- The statement for current present. -/
theorem currentPresent (dt : Nat) (l : LineId) (active : Bool) : Statement (.currentPresent dt l active) := by
  intro t q h
  cases h

/-- The statement for pulse end. -/
theorem pulseEnd (dt : Nat) (l : LineId) : Statement (.pulseEnd dt l) := by
  intro t q h
  cases h

/-- The statement for overcurrent. -/
theorem overcurrent (dt : Nat) (l : LineId) (active : Bool) : Statement (.overcurrent dt l active) := by
  intro t q h
  cases h

/-- The statement for retry deadline. -/
theorem retryDeadline (dt : Nat) (l : LineId) : Statement (.retryDeadline dt l) := by
  intro t q h
  cases h

/-- The statement for read status. -/
theorem readStatus (t : Telegram) : Statement (.readStatus t) := by
  intro t q h
  cases h
  exact ⟨rfl, rfl⟩

/-- The statement for set time configuration. -/
theorem setTimeConfiguration (t : Telegram) (p : TimeConfigParams) : Statement (.setTimeConfiguration t p) := by
  intro t q h
  cases h
  exact ⟨rfl, rfl⟩

/-- The statement for set local offset. -/
theorem setLocalOffset (t : Telegram) (offset : Option Int) (at_ : Option Instant) : Statement (.setLocalOffset t offset at_) := by
  intro t q h
  cases h
  exact ⟨rfl, rfl⟩

/-- The statement for set ring port. -/
theorem setRingPort (t : Telegram) (port mode limit : Nat) : Statement (.setRingPort t port mode limit) := by
  intro t q h
  cases h
  exact ⟨rfl, rfl⟩

/-- The statement for load element. -/
theorem loadElement (t : Telegram) (p : LoadElementParams) : Statement (.loadElement t p) := by
  intro t q h
  cases h
  exact ⟨rfl, rfl⟩

/-- The statement for unload element. -/
theorem unloadElement (t : Telegram) (address : Nat) : Statement (.unloadElement t address) := by
  intro t q h
  cases h
  exact ⟨rfl, rfl⟩

/-- The statement for set element mode. -/
theorem setElementMode (t : Telegram) (address mode : Nat) : Statement (.setElementMode t address mode) := by
  intro t q h
  cases h
  exact ⟨rfl, rfl⟩

/-- The statement for read element. -/
theorem readElement (t : Telegram) (address search : Nat) : Statement (.readElement t address search) := by
  intro t q h
  cases h
  exact ⟨rfl, rfl⟩

/-- The statement for set timetable settings. -/
theorem setTimetableSettings (t : Telegram) (lead grace : Nat) : Statement (.setTimetableSettings t lead grace) := by
  intro t q h
  cases h
  exact ⟨rfl, rfl⟩

/-- The statement for set changeover. -/
theorem setChangeover (t : Telegram) (at_ : Option Instant) (drain : Option Nat) : Statement (.setChangeover t at_ drain) := by
  intro t q h
  cases h
  exact ⟨rfl, rfl⟩

/-- The statement for load entry. -/
theorem loadEntry (t : Telegram) (p : LoadEntryParams) : Statement (.loadEntry t p) := by
  intro t q h
  cases h
  exact ⟨rfl, rfl⟩

/-- The statement for withdraw entry. -/
theorem withdrawEntry (t : Telegram) (id : Nat) : Statement (.withdrawEntry t id) := by
  intro t q h
  cases h
  exact ⟨rfl, rfl⟩

/-- The statement for erase period. -/
theorem erasePeriod (t : Telegram) (period : Nat) : Statement (.erasePeriod t period) := by
  intro t q h
  cases h
  exact ⟨rfl, rfl⟩

/-- The statement for read entry. -/
theorem readEntry (t : Telegram) (id search : Nat) : Statement (.readEntry t id search) := by
  intro t q h
  cases h
  exact ⟨rfl, rfl⟩

/-- The statement for read record. -/
theorem readRecord (t : Telegram) (first : Word32) : Statement (.readRecord t first) := by
  intro t q h
  cases h
  exact ⟨rfl, rfl⟩

/-- The statement for acknowledge record. -/
theorem acknowledgeRecord (t : Telegram) (through : Word32) : Statement (.acknowledgeRecord t through) := by
  intro t q h
  cases h
  exact ⟨rfl, rfl⟩

/-- The statement for set actions. -/
theorem setActions (t : Telegram) (count : Nat) (pairs : List (Nat × Nat)) : Statement (.setActions t count pairs) := by
  intro t q h
  cases h
  exact ⟨rfl, rfl⟩

/-- The statement for acknowledge alarm. -/
theorem acknowledgeAlarm (t : Telegram) (target address : Nat) : Statement (.acknowledgeAlarm t target address) := by
  intro t q h
  cases h
  exact ⟨rfl, rfl⟩

/-- The statement for set clock line. -/
theorem setClockLine (t : Telegram) (p : ClockLineParams) : Statement (.setClockLine t p) := by
  intro t q h
  cases h
  exact ⟨rfl, rfl⟩

/-- The statement for request state. -/
theorem requestState (t : Telegram) (state : Nat) : Statement (.requestState t state) := by
  intro t q h
  cases h
  exact ⟨rfl, rfl⟩

/-- The statement for set run condition. -/
theorem setRunCondition (t : Telegram) (value : Nat) : Statement (.setRunCondition t value) := by
  intro t q h
  cases h
  exact ⟨rfl, rfl⟩

/-- The statement for acknowledge error indication. -/
theorem acknowledgeErrorIndication (t : Telegram) : Statement (.acknowledgeErrorIndication t) := by
  intro t q h
  cases h
  exact ⟨rfl, rfl⟩

/-- The statement for restart. -/
theorem restart (t : Telegram) : Statement (.restart t) := by
  intro t q h
  cases h
  exact ⟨rfl, rfl⟩

/-- The statement for message octet. -/
theorem messageOctet (dt : Nat) (w : Wired) (octet : Byte) : Statement (.messageOctet dt w octet) := by
  intro t q h
  cases h

/-- The statement for last octet left. -/
theorem lastOctetLeft (dt : Nat) (p : PortId) : Statement (.lastOctetLeft dt p) := by
  intro t q h
  cases h

end Sys2Proof.Laws.ServiceRows
end

