-- ==== Sys2Proof/Laws/State.lean ====
section
/-! SUPPORT. Reading a block of `State` after writing one: the rewriting rules that spare every later proof the unfolding
of a record update. -/

namespace Sys2Proof.Laws

open Sys2Proof Sys2Proof.Machine

/-- A port reads back as it was written. -/
@[simp] theorem port_setPort_same (s : State) (p : PortId) (x : Port) : (s.setPort p x).port p = x := by
  cases p <;> rfl

/-- Writing one port leaves the other. -/
@[simp] theorem port_setPort_other (s : State) (p : PortId) (x : Port) : (s.setPort p x).port p.other = s.port p.other := by
  cases p <;> rfl

/-- Writing one port leaves the other. -/
theorem port_setPort_ne (s : State) {p q : PortId} (x : Port) (h : q ≠ p) : (s.setPort p x).port q = s.port q := by
  cases p <;> cases q <;> first | rfl | exact absurd rfl h

/-- A line reads back as it was written. -/
@[simp] theorem line_setLine_same (s : State) (l : LineId) (x : Line) : (s.setLine l x).line l = x := by
  cases l <;> rfl

/-- Writing one line leaves the other. -/
theorem line_setLine_ne (s : State) {l k : LineId} (x : Line) (h : k ≠ l) : (s.setLine l x).line k = s.line k := by
  cases l <;> cases k <;> first | rfl | exact absurd rfl h

/-- A source reads back as it was written. -/
@[simp] theorem source_setSource_same (s : State) (x : Source) (v : SourceState) : (s.setSource x v).source x = v := by
  cases x <;> rfl

/-- Writing one source leaves the others. -/
theorem source_setSource_ne (s : State) {x y : Source} (v : SourceState) (h : y ≠ x) :
    (s.setSource x v).source y = s.source y := by
  cases x <;> cases y <;> first | rfl | exact absurd rfl h

/-- Writing a source leaves the wired lines. -/
@[simp] theorem wired_setSource (s : State) (x : Source) (v : SourceState) (w : Wired) :
    (s.setSource x v).wired w = s.wired w := by
  cases x <;> cases w <;> rfl

/-- Wired lines read back as they were written. -/
@[simp] theorem wired_setWired_same (s : State) (w : Wired) (v : WiredState) : (s.setWired w v).wired w = v := by
  cases w <;> rfl

/-- Writing one wired reference leaves the other. -/
theorem wired_setWired_ne (s : State) {w z : Wired} (v : WiredState) (h : z ≠ w) :
    (s.setWired w v).wired z = s.wired z := by
  cases w <;> cases z <;> first | rfl | exact absurd rfl h

/-- Writing wired lines leaves the sources. -/
@[simp] theorem source_setWired (s : State) (w : Wired) (v : WiredState) (x : Source) :
    (s.setWired w v).source x = s.source x := by
  cases w <;> cases x <;> rfl

/-- The advance leaves the port. -/
@[simp] theorem port_advance (s : State) (n : Nat) (p : PortId) : (s.advance n).port p = s.port p := by
  cases p <;> rfl

/-- The advance leaves the line. -/
@[simp] theorem line_advance (s : State) (n : Nat) (l : LineId) : (s.advance n).line l = s.line l := by
  cases l <;> rfl

/-- The advance leaves the source. -/
@[simp] theorem source_advance (s : State) (n : Nat) (x : Source) : (s.advance n).source x = s.source x := by
  cases x <;> rfl

/-- The advance leaves the wired lines. -/
@[simp] theorem wired_advance (s : State) (n : Nat) (w : Wired) : (s.advance n).wired w = s.wired w := by
  cases w <;> rfl

/-- The advance leaves the records. -/
@[simp] theorem element_advance (s : State) (n : Nat) (a : Nat) : (s.advance n).element a = s.element a := rfl

/-- The advance of no period is none. -/
@[simp] theorem advance_zero (s : State) : s.advance 0 = s := rfl

/-- A record of the table carries the address it was found by. -/
theorem element_address {s : State} {a : Nat} {r : ElementRecord} (h : s.element a = some r) : r.address = a := by
  have := List.find?_some h
  simpa using this

/-- A record of the table stands in it. -/
theorem element_mem {s : State} {a : Nat} {r : ElementRecord} (h : s.element a = some r) : r ∈ s.elements :=
  List.mem_of_find?_eq_some h

/-- Changing the record at one address leaves those at others. -/
theorem element_modifyElement_ne (s : State) {a b : Nat} (f : ElementRecord → ElementRecord)
    (hf : ∀ r, (f r).address = r.address) (h : b ≠ a) : (s.modifyElement a f).element b = s.element b := by
  unfold State.element State.modifyElement
  dsimp only
  rw [List.find?_map]
  have hc : ((fun r : ElementRecord => r.address == b) ∘ fun r => if r.address = a then f r else r)
      = fun r => r.address == b := by
    funext r
    by_cases hr : r.address = a <;> simp [hr, hf]
  rw [hc]
  cases hx : s.elements.find? (fun r => r.address == b) with
  | none => rfl
  | some r =>
    have : r.address = b := by simpa using List.find?_some hx
    simp [this, h]

/-- Changing the record at an address changes the record found there. -/
theorem element_modifyElement_same (s : State) (a : Nat) (f : ElementRecord → ElementRecord)
    (hf : ∀ r, (f r).address = r.address) : (s.modifyElement a f).element a = (s.element a).map f := by
  unfold State.element State.modifyElement
  dsimp only
  rw [List.find?_map]
  have hc : ((fun r : ElementRecord => r.address == a) ∘ fun r => if r.address = a then f r else r)
      = fun r => r.address == a := by
    funext r
    by_cases hr : r.address = a <;> simp [hr, hf]
  rw [hc]
  cases hx : s.elements.find? (fun r => r.address == a) with
  | none => rfl
  | some r =>
    have : r.address = a := by simpa using List.find?_some hx
    simp [this]

end Sys2Proof.Laws
end

