-- ==== Sys2Proof/Laws/Raise.lean ====
section
/-! SUPPORT. What an admission attempt, a latch and a raise can do: the record grows at its newest end alone and stays in
order, the element table changes in latched faults alone, and the alarm output keeps following the latches. -/

namespace Sys2Proof.Laws

open Sys2Proof Sys2Proof.Machine

/-! ## Relations between states -/

/-- A record that did not change has grown by nothing. -/
theorem recordGrows_of_eq {s t : State} (h : t.record = s.record) : recordGrows s t := ⟨[], by simp [h]⟩

/-- Growth of the record composes. -/
theorem recordGrows_trans {s t u : State} (h : recordGrows s t) (k : recordGrows t u) : recordGrows s u := by
  obtain ⟨l, hl⟩ := h
  obtain ⟨m, hm⟩ := k
  exact ⟨l ++ m, by rw [hm, hl, List.append_assoc]⟩

/-- An element table that did not change is the same but for latches. -/
theorem sameElements_of_eq {s t : State} (h : t.elements = s.elements) : sameElements s t := by
  simp [sameElements, h]

/-- Sameness but for latches composes. -/
theorem sameElements_trans {s t u : State} (h : sameElements s t) (k : sameElements t u) : sameElements s u :=
  Eq.trans k h

/-- Every state agrees with itself. -/
theorem sameBut_refl (s : State) (l : List Block) : sameBut s s l := by
  intro b _
  cases b <;> rfl

/-- Agreement outside a list composes. -/
theorem sameBut_trans {s t u : State} {l : List Block} (h : sameBut s t l) (k : sameBut t u l) : sameBut s u l := by
  intro b hb
  have h1 := h b hb
  have h2 := k b hb
  cases b <;> exact Eq.trans h2 h1

/-- Agreement outside a list holds outside a longer one. -/
theorem sameBut_mono {s t : State} {l m : List Block} (h : sameBut s t l) (k : ∀ b ∈ l, b ∈ m) : sameBut s t m :=
  fun b hb => h b (fun hl => hb (k b hl))

/-! ## The event record -/

/-- An admission adds one entry at the newest end. -/
theorem enrol_grows (s : State) (d : Draft) : recordGrows s (s.enrol d) := ⟨_, rfl⟩

/-- Writing the GAP entry of a tally adds at most one entry. -/
theorem writeGap_grows (s : State) : recordGrows s s.writeGap := by
  unfold State.writeGap
  cases s.record.tally with
  | none => exact recordGrows_of_eq rfl
  | some t => exact ⟨_, rfl⟩

/-- The GAP rule adds at most one entry. -/
theorem gapRule_grows (s : State) : recordGrows s s.gapRule := by
  unfold State.gapRule
  split
  · exact writeGap_grows s
  · exact recordGrows_of_eq rfl

/-- An admission attempt removes no entry. -/
theorem attempt_grows (s : State) (d : Draft) : recordGrows s (s.attempt d) := by
  unfold State.attempt
  dsimp only
  have h : recordGrows s (if d.alarm = true then s.gapRule else s) := by
    split
    · exact gapRule_grows s
    · exact recordGrows_of_eq rfl
  generalize (if d.alarm = true then s.gapRule else s) = u at *
  split
  · exact recordGrows_trans h (enrol_grows _ _)
  · exact recordGrows_trans h ⟨[], by simp [State.tallyLost]⟩

/-- An entry outside the action table removes no entry. -/
theorem note_grows (s : State) (c : Capture) (b : EntryBody) (a : Bool) : recordGrows s (s.note c b a) :=
  attempt_grows s _

/-- The latch of a target leaves the record. -/
theorem latch_record (s : State) (t : LatchTarget) (k : LatchKind) (c : Capture) : (s.latch t k c).record = s.record := by
  simp

/-- A raise removes no entry. -/
theorem raise_grows (s : State) (r : Raise) : recordGrows s (s.raise r) := by
  unfold State.raise
  split
  · exact recordGrows_of_eq rfl
  · exact attempt_grows s _
  · exact attempt_grows s _
  · exact recordGrows_trans (recordGrows_of_eq (latch_record _ _ _ _)) (attempt_grows _ _)

/-- The routine entries of a record that gains one entry. -/
theorem routine_append (l : List Entry) (e : Entry) :
    ((l ++ [e]).filter (fun e => !e.alarm)).length = (l.filter (fun e => !e.alarm)).length + if e.alarm then 0 else 1 := by
  rw [List.filter_append, List.length_append]
  cases h : e.alarm <;> simp [h]

/-- Numbering goes on when the entry of the next number joins. -/
theorem numbered_append (l : List Entry) (e : Entry) (n : Word32) (h : numbered l n) (he : e.sequence = n) :
    numbered (l ++ [e]) (n + 1) := by
  induction l with
  | nil => simp [numbered, he]
  | cons x xs ih =>
    cases xs with
    | nil =>
      simp only [numbered] at h
      exact ⟨by rw [h, he], by simp [numbered, he]⟩
    | cons y ys =>
      simp only [numbered] at h
      exact ⟨h.1, ih h.2⟩

/-- An admission with room for its class keeps the record in order. -/
theorem enrol_recordOk (s : State) (d : Draft) (h : s.RecordOk) (k : s.hasRoom d.alarm = true) : (s.enrol d).RecordOk := by
  obtain ⟨h1, h2, h3⟩ := h
  have hr : s.record.entries.length < if d.alarm then Config.maxRecord else Config.alarmReserve :=
    of_decide_eq_true k
  have hf := List.length_filter_le (fun e : Entry => !e.alarm) s.record.entries
  refine ⟨?_, ?_, ?_⟩
  · simp only [State.enrol, List.length_append, List.length_singleton]
    unfold Config.maxRecord Config.alarmReserve at *
    split at hr <;> omega
  · simp only [State.enrol]
    rw [routine_append]
    unfold Config.alarmReserve at *
    dsimp only
    split at hr <;> rename_i ha <;> simp [ha] <;> omega
  · exact numbered_append _ _ _ h3 rfl

/-- The GAP rule keeps the record in order. -/
theorem gapRule_recordOk (s : State) (h : s.RecordOk) : s.gapRule.RecordOk := by
  unfold State.gapRule State.writeGap
  split
  · rename_i hc
    cases s.record.tally with
    | none => exact h
    | some t =>
      have := enrol_recordOk s (Draft.plain s.capture (.gap t) true) h (by simpa [State.hasRoom, Draft.plain] using hc)
      exact this
  · exact h

/-- An admission attempt keeps the record in order (R149, R152). -/
theorem attempt_recordOk (s : State) (d : Draft) (h : s.RecordOk) : (s.attempt d).RecordOk := by
  unfold State.attempt
  dsimp only
  have hg : (if d.alarm = true then s.gapRule else s).RecordOk := by
    split
    · exact gapRule_recordOk s h
    · exact h
  generalize (if d.alarm = true then s.gapRule else s) = u at *
  split
  · exact enrol_recordOk _ _ hg (by assumption)
  · exact hg

/-! ## Latches -/

/-- Writing a latch changes the element table in latched faults alone. -/
theorem setLatch_sameElements (s : State) (t : LatchTarget) (x : Option Latched) : sameElements s (s.setLatch t x) := by
  unfold State.setLatch
  cases t with
  | element a =>
    simp only [sameElements, State.modifyElement, List.map_map]
    apply List.map_congr_left
    intro r _
    by_cases h : r.address = a <;> simp [h, ElementRecord.unlatched]
  | time => rfl
  | line l => cases l <;> rfl
  | port p => cases p <;> rfl

/-- A latch changes the element table in latched faults alone. -/
theorem latch_sameElements (s : State) (t : LatchTarget) (k : LatchKind) (c : Capture) : sameElements s (s.latch t k c) := by
  unfold State.latch
  split
  · exact sameElements_of_eq rfl
  · exact setLatch_sameElements s t _

/-- A raise changes the element table in latched faults alone. -/
theorem raise_sameElements (s : State) (r : Raise) : sameElements s (s.raise r) := by
  unfold State.raise
  split
  · exact sameElements_of_eq rfl
  · exact sameElements_of_eq (by simp)
  · exact sameElements_of_eq (by simp)
  · exact sameElements_trans (latch_sameElements s r.target (.kind r.kind) r.capture) (sameElements_of_eq (by simp))

/-- Tables that are the same but for latches hold the same record, but for its latch, at every address. -/
theorem element_of_sameElements {s t : State} (h : sameElements s t) (a : Nat) :
    (t.element a).map ElementRecord.unlatched = (s.element a).map ElementRecord.unlatched := by
  have key : ∀ u : State, (u.element a).map ElementRecord.unlatched
      = (u.elements.map ElementRecord.unlatched).find? (fun r => r.address == a) := by
    intro u
    rw [List.find?_map]
    rfl
  rw [key, key, h]

/-- Writing a latch leaves the records at other addresses. -/
theorem element_setLatch_ne (s : State) (t : LatchTarget) (x : Option Latched) (a : Nat) (h : t ≠ .element a) :
    (s.setLatch t x).element a = s.element a := by
  cases t with
  | element b =>
    have hb : a ≠ b := fun e => h (by rw [e])
    exact element_modifyElement_ne s (fun r => { r with latched := x }) (fun _ => rfl) hb
  | time => rfl
  | line l => cases l <;> rfl
  | port p => cases p <;> rfl

/-- A raise leaves the records at other addresses. -/
theorem element_raise_ne (s : State) (r : Raise) (a : Nat) (h : r.target ≠ .element a) :
    (s.raise r).element a = s.element a := by
  have hl : ∀ k c, (s.latch r.target k c).element a = s.element a := by
    intro k c
    unfold State.latch
    split
    · rfl
    · exact element_setLatch_ne s r.target _ a h
  unfold State.raise
  split
  · rfl
  · simp [State.element]
  · simp [State.element]
  · rw [← hl (.kind r.kind) r.capture]
    simp [State.element]

/-- The target is not an element. -/
def offTable : LatchTarget → Bool
  | .element _ => false
  | _ => true

/-- A raise whose target is the time base, a line or a port leaves the element table. -/
theorem raise_elements (s : State) (r : Raise) (h : offTable r.target = true) : (s.raise r).elements = s.elements := by
  have hl : ∀ k c, (s.latch r.target k c).elements = s.elements := by
    intro k c
    unfold State.latch
    split
    · rfl
    · cases ht : r.target with
      | element a => simp [ht, offTable] at h
      | time => simp [State.setLatch]
      | line l => cases l <;> simp [State.setLatch]
      | port p => cases p <;> simp [State.setLatch]
  unfold State.raise
  split <;> simp [hl]

/-- A latch leaves the alarm output following the latches (R159, R161). -/
theorem latch_alarmOk (s : State) (t : LatchTarget) (k : LatchKind) (c : Capture) (h : s.AlarmOk) : (s.latch t k c).AlarmOk := by
  unfold State.latch
  split
  · exact h
  · refine ⟨rfl, ?_⟩
    have := h.2
    cases t with
    | element a => exact this
    | time => exact this
    | line l => cases l <;> exact this
    | port p => cases p <;> exact this

/-- The alarm output depends on the alarm unit and the element table alone. -/
theorem alarmOk_congr {s t : State} (ha : t.alarms = s.alarms) (he : t.elements = s.elements) (h : s.AlarmOk) : t.AlarmOk := by
  unfold State.AlarmOk State.anyLatch at *
  rw [ha, he]
  exact h

/-- A raise leaves the alarm output following the latches (R157, R159, R161). -/
theorem raise_alarmOk (s : State) (r : Raise) (h : s.AlarmOk) : (s.raise r).AlarmOk := by
  unfold State.raise
  split
  · exact h
  · exact alarmOk_congr (by simp) (by simp) h
  · exact alarmOk_congr (by simp) (by simp) h
  · exact alarmOk_congr (by simp) (by simp) (latch_alarmOk s r.target (.kind r.kind) r.capture h)

end Sys2Proof.Laws
end

