-- ==== Sys2Proof/Tests/Slice0.lean ====
section
/-! SUPPORT. Tests of the model on small states: ill-formed commands are refused, the two checks of the ring give their
published values, each row acts, and the hypotheses of every obligation are met by a state and operands written here. -/

namespace Sys2Proof.Tests

set_option Elab.async false

open Sys2Proof Sys2Proof.Machine

/-! ## Well-formedness -/

/-- A telegram addressed to the station of `State.reset`. -/
def telegram : Telegram := { dt := 0, port := .a, address := 0xF000, sequence := 1, result := 0 }

/-- Settings that SET TIME CONFIGURATION accepts unclamped. -/
def timeParams : TimeConfigParams :=
  { stepThreshold := 100, stepPermit := 1, stepInRun := 1, fineEntry := 1000, fineExit := 4000, kp := 3, ki := 8,
    slewRate := 200000, holdDrift := 500, l1 := 1000, l2 := 10, l3 := 100,
    ref1 := { enable := 1, priority := 1, delay := 0 }, ref2 := { enable := 1, priority := 2, delay := 0 },
    ring := { enable := 0, priority := 3, delay := 0 }, nQual := 10, nDisq := 3, revertHold := 60, masterEnable := 0,
    masterAddress := 0xF000 }

/-- A load of a timetable-point signal at address 7. -/
def loadParams : LoadElementParams :=
  { address := 7, kind := 1, mode := 3, timetablePoint := 1, silence := none, start := none, run := none, settle := none,
    bounces := none, warning := none, confirm := none }

/-- A train tag. -/
def tag : TrainTag := { c0 := 0x41, c1 := 0x42, c2 := 0x30, c3 := 0x31 }

/-- A load of a timetable entry at the signal of address 7. -/
def entryParams : LoadEntryParams :=
  { id := 1, period := 2, train := tag, element := 7, check := 1, scheduled := { day := 0, second := 100 }, early := 30,
    late := 30, severe := 60 }

/-- Settings of clock line 1. -/
def lineParams : ClockLineParams :=
  { line := 1, enable := some 1, step := none, shown := some 10, polarity := some 1, width := none, fast := none,
    wait := none, retry := none }

theorem test_wf_frame_start : (Instr.frameStart 0 .a (List.replicate 19 0)).wellFormed = false := by decide
theorem test_wf_telegram_short : (Instr.telegramParse 0 .a (List.replicate 5 0)).wellFormed = false := by decide
theorem test_wf_telegram_long : (Instr.telegramParse 0 .a (List.replicate 1519 0)).wellFormed = false := by decide +kernel
theorem test_wf_frame_cut : (Instr.frameCut 0 .a []).wellFormed = false := by decide
theorem test_wf_frame_end : (Instr.frameEnd 0 .a (List.replicate 1537 0)).wellFormed = false := by decide +kernel
theorem test_wf_message : (Instr.referenceMessage 0 .ref1 (List.replicate 11 0)).wellFormed = false := by decide

theorem test_wf_deadline_addresses :
    [Instr.elementSilenceDeadline 0 0, .elementSilenceDeadline 0 0xF000, .startDeadline 0 0, .startDeadline 0 0xF000,
      .runDeadline 0 0, .runDeadline 0 0xF000, .settleDeadline 0 0, .settleDeadline 0 0xF000, .confirmDeadline 0 0,
      .confirmDeadline 0 0xF000].all (fun i => !i.wellFormed) = true := by decide

theorem test_wf_time_configuration :
    [{ timeParams with stepThreshold := 65536 }, { timeParams with stepPermit := 256 }, { timeParams with stepInRun := 256 },
      { timeParams with fineEntry := 65536 }, { timeParams with fineExit := 16777216 }, { timeParams with kp := 256 },
      { timeParams with ki := 256 }, { timeParams with slewRate := 16777216 }, { timeParams with holdDrift := 16777216 },
      { timeParams with l1 := 65536 }, { timeParams with l2 := 256 }, { timeParams with l3 := 65536 },
      { timeParams with ref1 := { enable := 256, priority := 1, delay := 0 } },
      { timeParams with ref2 := { enable := 1, priority := 256, delay := 0 } },
      { timeParams with ring := { enable := 0, priority := 3, delay := 16777216 } }, { timeParams with nQual := 256 },
      { timeParams with nDisq := 256 }, { timeParams with revertHold := 65536 }, { timeParams with masterEnable := 256 },
      { timeParams with masterAddress := 65536 }].all (fun p => !(Instr.setTimeConfiguration telegram p).wellFormed)
      = true := by decide

theorem test_wf_load_element :
    [{ loadParams with address := 65536 }, { loadParams with kind := 256 }, { loadParams with mode := 256 },
      { loadParams with timetablePoint := 256 }, { loadParams with silence := some 65535 },
      { loadParams with start := some 65535 }, { loadParams with run := some 255 }, { loadParams with settle := some 65535 },
      { loadParams with bounces := some 255 }, { loadParams with warning := some 65535 },
      { loadParams with confirm := some 65535 }].all (fun p => !(Instr.loadElement telegram p).wellFormed) = true := by decide

theorem test_wf_load_entry :
    [{ entryParams with id := 65536 }, { entryParams with period := 256 }, { entryParams with element := 65536 },
      { entryParams with check := 256 }, { entryParams with scheduled := { day := 65536, second := 0 } },
      { entryParams with scheduled := { day := 0, second := 16777216 } }, { entryParams with early := 65536 },
      { entryParams with late := 65536 }, { entryParams with severe := 65536 }].all
      (fun p => !(Instr.loadEntry telegram p).wellFormed) = true := by decide

theorem test_wf_clock_line :
    [{ lineParams with line := 256 }, { lineParams with enable := some 255 }, { lineParams with step := some 255 },
      { lineParams with shown := some 65535 }, { lineParams with polarity := some 255 },
      { lineParams with width := some 65535 }, { lineParams with fast := some 65535 }, { lineParams with wait := some 255 },
      { lineParams with retry := some 65535 }].all (fun p => !(Instr.setClockLine telegram p).wellFormed) = true := by decide

theorem test_wf_other_requests :
    [Instr.setLocalOffset telegram (some (-32768)) none, .setLocalOffset telegram (some 32768) none,
      .setLocalOffset telegram none (some { day := 65536, second := 0 }),
      .setLocalOffset telegram none (some { day := 65535, second := 16777215 }), .setRingPort telegram 256 1 100,
      .setRingPort telegram 1 256 100, .setRingPort telegram 1 1 65536, .unloadElement telegram 65536,
      .setElementMode telegram 65536 1, .setElementMode telegram 7 256, .readElement telegram 65536 1,
      .readElement telegram 7 256, .setTimetableSettings telegram 65536 0, .setTimetableSettings telegram 0 65536,
      .setChangeover telegram (some { day := 65536, second := 0 }) none, .setChangeover telegram none (some 65535),
      .withdrawEntry telegram 65536, .erasePeriod telegram 256, .readEntry telegram 65536 1, .readEntry telegram 1 256,
      .setActions telegram 256 (List.replicate 8 (0, 0)), .setActions telegram 1 [(1, 1)],
      .setActions telegram 1 (List.replicate 8 (256, 0)), .acknowledgeAlarm telegram 256 7,
      .acknowledgeAlarm telegram 1 65536, .requestState telegram 256, .setRunCondition telegram 256].all
      (fun i => !i.wellFormed) = true := by decide

/-- The commands built from the operands above are well formed. -/
theorem test_wf_accepts :
    [Instr.powerOn 0, .frameStart 0 .a (List.replicate 18 0), .telegramParse 0 .a (List.replicate 6 0),
      .referenceMessage 0 .ref1 (List.replicate 12 0), .startDeadline 0 7, .setTimeConfiguration telegram timeParams,
      .loadElement telegram loadParams, .loadEntry telegram entryParams, .setClockLine telegram lineParams,
      .setLocalOffset telegram (some (-720)) none, .restart telegram].all Instr.wellFormed = true := by decide

/-! ## The checks of the ring -/

/-- The nine digits whose checks are published. -/
def digits : List Byte := [0x31, 0x32, 0x33, 0x34, 0x35, 0x36, 0x37, 0x38, 0x39]

theorem test_crc16 : crc16 digits = 0x29B1 := by decide +kernel
theorem test_crc32 : crc32 digits = 0xCBF43926 := by decide +kernel

/-! ## Helpers -/

/-- The next state of a command, or the state itself. -/
def out (i : Instr) (s : State) : State :=
  match exec i s with
  | .next t => t
  | .fault _ => s
  | .refused _ => s

/-- A disciplined time base five seconds after power-on, one second into day 0. -/
def clock : TimeBase :=
  { TimeBase.powerOn with
    centre := 1000000000, elapsed := 5000000, timeSet := true, mode := .fine, quality := .q1, u := 0, epoch := 1 }

/-- The part with that time base, a source selected. -/
def base : State := { State.reset with time := clock, refs := { Selector.powerOn with selected := some .ref1 } }

/-- The same part in RUN. -/
def running : State := { base with service := { base.service with state := .run } }

/-- A mark of REF1 whose phase error is `e`. -/
def markOf (e : Nat) : AcceptedMark :=
  { capture := { centre := 1000000000 + e, elapsed := 5000000 }, announced := 1000000000, delay := 0, source := .ref1 }

/-- A capture and stamp of two seconds after power-on. -/
def dated : Dated := { capture := { centre := 0, elapsed := 2000000 }, stamp := Stamp.powerOn }

/-- A movement whose every deadline lies at five seconds. -/
def moving (k : Phase) : Movement :=
  { phase := k, target := .normal, origin := none, command := dated, leave := none,
    arrival := some { dated with capture := { centre := 0, elapsed := 4000000 } }, startDeadline := 5000000,
    runDeadline := 5000000, settleDeadline := some 5000000, bounces := 0, runPassed := false }

/-- The point fields of a point with that movement. -/
def pointPart (k : Phase) : PointPart :=
  { startLimit := 1000, runLimit := 8, settleTime := 100, maxBounces := 3, warning := 6000, movement := some (moving k),
    history := [] }

/-- A point at address 7. -/
def point (k : Phase) : ElementRecord :=
  { address := 7, mode := .supervise, silenceLimit := 1500, lastCommand := none, lastStatus := none, commandSequence := none,
    statusSequence := some 9, coverage := .observed, regained := some Stamp.powerOn, silenceDeadline := some 5000000,
    latched := none, references := 0, part := .point (pointPart k) }

/-- The part in RUN with that point. -/
def withPoint (k : Phase) : State := { running with elements := [point k] }

/-- A confirmation pending whose deadline lies at five seconds. -/
def confirmation : Confirmation := { aspect := 2, tag := some tag, command := dated, deadline := 5000000, overdue := false }

/-- The signal fields of a timetable point with that confirmation. -/
def signalPart : SignalPart :=
  { timetablePoint := true, confirmLimit := 1500, clearedFor := none, confirmation := some confirmation }

/-- A signal at address 7. -/
def signal (m : ElementMode) : ElementRecord := { point .moving with mode := m, part := .signal signalPart }

/-- The part in RUN with that signal. -/
def withSignal (m : ElementMode) : State := { running with elements := [signal m] }

/-- A port whose link is up. -/
def upPort : Port := { Port.powerOn with up := true, reported := true, demand := .isOpen, loop := .isOpen }

/-- The part with both links up. -/
def linked : State := { base with portA := upPort, portB := upPort }

/-- The eighteen header octets of a ring frame of four telegrams. -/
def ringHead : List Byte := List.replicate 12 0 ++ [0x9A, 0x42, 0, 0, 4, 0]

/-- A ring frame in flight on port A. -/
def inFlight : Frame := Frame.begin ringHead (some .b) true

/-- The part with that frame in flight. -/
def withFrame : State :=
  { linked with portA := { upPort with frame := some inFlight }, portB := { upPort with transmitter := .sending .a none } }

/-- An ELEMENT STATUS telegram of a point at address 7, without its check. -/
def statusOctets : List Byte := [0x00, 0x07, 0x02, 0x0A, 0x00, 0x01, 0x01]

/-- A line that is running, its hands one position behind the target of one second into day 0. -/
def running1 : Line := { Line.powerOn with state := .running, enable := true, shown := some 719, polarity := some .positive }

/-- A pulse whose end lies at five seconds. -/
def pulseOf (seen : Bool) : Pulse := { polarity := .negative, start := 4500000, deadline := 5000000, currentSeen := seen }

/-- The part with a running line 1. -/
def withLine (x : Line) : State := { base with line1 := x }

/-- A PENDING entry of tag A at the signal of address 7. -/
def pendingEntry : TimetableEntry :=
  { id := 1, period := .a, train := tag, element := 7, check := .cleared, scheduled := { day := 0, second := 0 }, early := 30,
    late := 30, severe := 60, windowStart := -1800, expiry := 1, state := .pending, matched := none,
    serial := 0 }

/-- The part in RUN with that entry. -/
def withEntry : State :=
  { running with elements := [signal .supervise], checker := { Checker.powerOn with store := [pendingEntry] } }

/-! ## The hypotheses of the statements are met, and what the rows then do

A theorem `test_<name>_met` shows a state and operands that meet the hypotheses of the obligation of that name. -/

theorem test_stepRunsFront_met :
    ({ base with pending := [Instr.secondMarkStart 0] } : State).pending = Instr.secondMarkStart 0 :: [] := by decide

theorem test_stepOnEmptyQueue_met :
    (State.blank.pending = [] ∧ State.blank.inReset = true)
      ∧ (State.reset.pending = [] ∧ State.reset.inReset = false ∧ State.reset.dueCommands = [])
      ∧ (withPoint .settling).pending = [] ∧ (withPoint .settling).inReset = false
      ∧ (withPoint .settling).dueCommands = [Instr.elementSilenceDeadline 0 7, .runDeadline 0 7, .settleDeadline 0 7] := by
  decide +kernel

/-- The same state one microsecond and one nanosecond of centre time before. -/
def before (s : State) : State := { s with time := { s.time with elapsed := 4999999, centre := 999999999 } }

/-- Rows due at their deadline, and none just before it. -/
theorem test_stepOnEmptyQueue_due_met :
    [withPoint .commanded, withSignal .supervise, withEntry, withLine running1,
        withLine { running1 with state := .retry, retryDeadline := some 5000000 },
        withLine { running1 with pulse := some (pulseOf true) }].map State.dueCommands
      = [[.elementSilenceDeadline 0 7, .startDeadline 0 7, .runDeadline 0 7],
          [.elementSilenceDeadline 0 7, .confirmDeadline 0 7],
          [.elementSilenceDeadline 0 7, .confirmDeadline 0 7, .timetableExpiry 0], [.pulseStart 0 .one],
          [.retryDeadline 0 .one], [.pulseEnd 0 .one]]
      ∧ [withPoint .commanded, withEntry, withLine { running1 with pulse := some (pulseOf true) }].all
          (fun s => (before s).dueCommands.isEmpty) = true := by decide +kernel

theorem test_powerOnAndReset_met :
    State.blank.inReset = true ∧ Instr.changeover 0 ≠ .resetAssert ∧ ∀ x, Instr.changeover 0 ≠ .powerOn x := by
  refine ⟨by decide, by decide, fun x h => by cases h⟩

theorem test_timeOk_met : State.reset.TimeOk ∧ base.TimeOk := by
  unfold State.TimeOk TimeConfig.Listed
  decide +kernel

theorem test_countsGrow_met :
    (base.time.held = false ∧ base.time.centreFrac < 1000000000 ∧ base.time.centre + 2000000000 < Config.lastScale)
      ∧ (base.advance 25000000).time.elapsed = 6000000
      ∧ ({ base with time := { clock with centre := Config.lastScale, held := true } } : State).time.held = true := by
  decide +kernel

theorem test_correctionAtMark_met :
    base.time.mode = .fine ∧ base.countAfter (markOf 255) ≠ 3 ∧ (base.acceptedMark (markOf 255)).time.mode = .fine
      ∧ (base.acceptedMark (markOf 255)).time.c = -31 ∧ (base.acceptedMark (markOf 7)).time.c = 0
      ∧ (base.acceptedMark (markOf 4000001)).time.mode = .slew
      ∧ (base.acceptedMark (markOf 4000001)).time.c = -200000 := by decide +kernel

theorem test_hysteresisAndForcedSlew_met :
    (base.time.mode = .fine ∧ base.countAfter (markOf 4000000) ≠ 3
        ∧ (base.acceptedMark (markOf 4000000)).time.mode = .fine ∧ (base.acceptedMark (markOf 4000000)).time.u = 4000000)
      ∧ ({ base with time := { clock with mode := .slew } } : State).countAfter (markOf 1000000) ≠ 3
      ∧ (({ base with time := { clock with mode := .slew } } : State).acceptedMark (markOf 1000000)).time.mode = .slew := by
  decide +kernel

/-- A mark ten seconds before the end of the scale, in FREE. -/
def lateMark (announced : Nat) : AcceptedMark :=
  { capture := { centre := 0, elapsed := 0 }, announced := announced, delay := 0, source := .ref1 }

theorem test_firstSetAndStepAtMark_met :
    State.reset.time.mode = .free
      ∧ 0 ≤ (State.reset.time.centre : Int) - (lateMark (Config.lastScale - 1)).eFull
      ∧ (State.reset.time.centre : Int) - (lateMark (Config.lastScale - 1)).eFull < Config.lastScale
      ∧ (Config.lastScale : Int) ≤ (State.reset.time.centre : Int) - (lateMark Config.lastScale).eFull := by decide +kernel

theorem test_firstSetAndStepAtMark_set_met :
    State.reset.record.entries.length < 7936
      ∧ (State.reset.acceptedMark (lateMark 5)).record.entries.map (fun e => (e.body.kindType, e.stamp.epoch))
          = [((8, 1), 0), ((5, 1), 1), ((5, 3), 1)] := by decide +kernel

/-- The exact phase error reaches further than the loop error, which saturates. -/
theorem test_loopErrorSaturates :
    (base.acceptedMark (lateMark 3000000000)).time.u = 3000000000 ∧ (lateMark 3000000000).e = -2147483647 := by
  decide +kernel

theorem test_firstSet : (State.reset.firstSet (lateMark Config.lastScale)).time.held = true := by decide +kernel

/-- Two marks at the threshold have been counted. -/
def nearStep : State := { base with time := { clock with stepCount := 2 } }

theorem test_firstSetAndStepAtMark_step_met :
    nearStep.time.mode = .fine ∧ nearStep.countAfter (markOf 100000000) = 3 ∧ nearStep.time.config.stepPermit = true
      ∧ nearStep.service.state = .config ∧ nearStep.time.epoch < 65535
      ∧ 0 ≤ (nearStep.time.centre : Int) - (markOf 100000000).eFull
      ∧ (nearStep.time.centre : Int) - (markOf 100000000).eFull < Config.lastScale
      ∧ (nearStep.step_ (markOf 100000000)).time.centre = 900000000
      ∧ (Config.lastScale : Int)
          ≤ (nearStep.time.centre : Int) - ({ lateMark (Config.lastScale - 1000000000) with source := .ref2 } : AcceptedMark).eFull
      ∧ nearStep.countAfter { lateMark (Config.lastScale - 1000000000) with source := .ref2 } = 3 := by decide +kernel

/-- A due step that is not permitted. -/
def barred : State :=
  { nearStep with time := { nearStep.time with config := { TimeConfig.default with stepPermit := false } } }

theorem test_hysteresisAndForcedSlew_forced_met :
    barred.countAfter (markOf 100000000) = 3 ∧ barred.time.config.stepPermit = false
      ∧ (barred.acceptedMark (markOf 100000000)).time.mode = .slew
      ∧ (barred.acceptedMark (markOf 100000000)).time.stepCount = 3
      ∧ (barred.acceptedMark (markOf 100000000)).time.u = 100000000 := by decide +kernel

/-- A mark that brings the class down, and one that brings it up from Q4 in RUN, where the due entry expires. -/
theorem test_hysteresisAndForcedSlew_quality_met :
    (base.acceptedMark (markOf 4000000)).time.quality = .q2
      ∧ (let s : State := { withEntry with time := { clock with quality := .q4 } }
        s.service.state = .run ∧ s.countAfter (markOf 0) ≠ 3 ∧ (s.acceptedMark (markOf 0)).time.quality = .q1
          ∧ ((s.acceptedMark (markOf 0)).entry 1).map (·.state) = some .unobserved) := by decide +kernel

/-- A gap tally of one routine entry. -/
def tally : Tally := { first := Stamp.powerOn, last := Stamp.powerOn, routine := 1, alarm := 0 }

/-- A state whose gap tally is open. -/
def gapped (s : State) : State := { s with record := { s.record with tally := some tally } }

theorem test_step_follows_gap :
    ((gapped nearStep).step_ (markOf 100000000)).record.entries.map (fun e => (e.body.kindType, e.stamp.epoch))
      = [((8, 1), 0), ((9, 0), 1), ((5, 2), 2)] := by decide +kernel

theorem test_qualityEvaluation_met :
    ({ base with time := { clock with u := 500000, quality := .q4 } } : State).classNow = .q1
      ∧ ({ base with time := { clock with u := 500001, quality := .q4 } } : State).classNow = .q2
      ∧ ({ base with time := { clock with u := 1000001 } } : State).classNow = .q2
      ∧ ({ base with time := { clock with u := 1000000 } } : State).classNow = .q1 := by decide +kernel

/-- What a change of class writes: its class, and whether it was raised as an alarm. -/
def afterQuality (q : Quality) (u : Nat) : List ((Nat × Nat) × Bool) × Bool :=
  let t := ({ base with time := { clock with u := u, quality := q } } : State).evalQuality
  ((t.record.entries.drop 1).map (fun e => (e.body.kindType, e.alarm)), t.alarms.output)

theorem test_qualityEvaluation_entry_met :
    [afterQuality .q4 0, afterQuality .q1 1000001, afterQuality .q2 20000000, afterQuality .q1 0]
      = [([((5, 3), false)], false), ([((5, 3), false)], false), ([((5, 3), true)], false), ([], false)]
      ∧ (afterQuality .q1 4000000000).2 = true := by decide +kernel

/-- The part in HOLDOVER at a holdover second. -/
def inHoldover : State :=
  { base with time := { clock with mode := .holdover, nextHoldover := some 5000000 }, refs := Selector.powerOn }

/-- The part in disciplined time whose only source REF1 reaches its absence deadline. -/
def losing : State :=
  { base with refs := { Selector.powerOn with
      selected := some .ref1
      ref1 := { SourceState.absent with state := .qualified, absenceDeadline := some 5000000 } } }

theorem test_holdoverAndScaleEnd_loss_met :
    losing.inReset = false ∧ losing.refs.selected = some .ref1
      ∧ (losing.source .ref1).absenceDeadline = some 5000000 ∧ 5000000 ≤ (losing.advance 0).time.elapsed
      ∧ (losing.source .ref2).state ≠ .qualified ∧ (losing.source .ring).state ≠ .qualified
      ∧ losing.time.timeSet = true ∧ (out (.absenceDeadline 0 .ref1) losing).time.mode = .holdover
      ∧ (inHoldover.select .ref2 .qualified).time.mode = .slew := by decide +kernel

/-- The part at the last nanosecond of the scale. -/
def atScaleEnd : State := { base with time := { clock with centre := Config.lastScale } }

theorem test_holdoverAndScaleEnd_met :
    (inHoldover.inReset = false ∧ inHoldover.time.mode = .holdover ∧ inHoldover.time.nextHoldover = some 5000000
        ∧ 5000000 ≤ (inHoldover.advance 0).time.elapsed ∧ (out (.holdoverSecond 0) inHoldover).time.u = 500)
      ∧ atScaleEnd.inReset = false ∧ (atScaleEnd.advance 0).time.centre = 5662310399999999999 ∧ atScaleEnd.time.held = false
      ∧ (out (.scaleEndHold 0) atScaleEnd).time.quality = .q4 := by decide +kernel

/-- The part at a second boundary, its last pulse just over. -/
def atBoundary : State :=
  { base with time := { clock with boundary := true, secondMark := true, secondMarkEnd := some 5000000 } }

theorem test_secondMarkAndOffsetChange_met :
    atBoundary.inReset = false ∧ (atBoundary.advance 0).time.boundary = true ∧ atBoundary.time.secondMarkEnd = some 5000000
      ∧ 5000000 ≤ (atBoundary.advance 0).time.elapsed
      ∧ (out (.secondMarkStart 0) atBoundary).time.secondMarkEnd = some 5100000
      ∧ (out (.secondMarkEnd 0) atBoundary).time.secondMark = false := by decide +kernel

/-- The advance reaches a boundary; a step over one does not. -/
theorem test_secondMark_boundary_met :
    ((before base).advance 0).time.boundary = false ∧ ((before base).advance 1).time.boundary = true
      ∧ (nearStep.acceptedMark (markOf 100000000)).time.centre = 900000000
      ∧ (nearStep.acceptedMark (markOf 100000000)).time.boundary = false := by decide +kernel

/-- The part with a pending offset change at one second into day 0. -/
def withOffset : State :=
  { base with time := { clock with pendingOffset := some { offset := 60, instant := { day := 0, second := 1 } } } }

theorem test_secondMarkAndOffsetChange_offset_met :
    withOffset.inReset = false ∧ withOffset.time.pendingOffset = some { offset := 60, instant := { day := 0, second := 1 } }
      ∧ ({ day := 0, second := 1 } : Instant).nanos ≤ (withOffset.advance 0).time.centre
      ∧ (out (.offsetChangeInstant 0) withOffset).time.localOffset = 60 := by decide +kernel

/-! ### Reference selector -/

/-- A valid message that announces second 2 of day 0, status OK. -/
def goodMessage : List Byte :=
  [0xA5, 0, 0, 0, 0, 2, 1, 0, 0] ++ octets 2 (crc16 [0, 0, 0, 0, 2, 1, 0, 0]).toNat ++ [0x5A]

theorem test_referenceMessages_met :
    (base.inReset = false ∧ (base.time.config.source Wired.ref1.source).enable = true ∧ goodMessage.length = 12
        ∧ goodMessage.head? = some 0xA5 ∧ (messageContents goodMessage).isSome = true)
      ∧ (({ base with time := { clock with config := { TimeConfig.default with
            ref1 := { enable := false, priority := 1, delay := 0 } } } } : State).time.config.source
            Wired.ref1.source).enable = false := by decide +kernel

/-- The receiver of REF1 holds the first octets of a message. -/
def collecting (n : Nat) : State :=
  { base with refs := { base.refs with wired1 := { WiredState.powerOn with
      collected := goodMessage.take n, octetEnd := 4994000 } } }

theorem test_referenceMessages_octets_met :
    (base.inReset = false ∧ (base.wired .ref1).collected = [])
      ∧ ((collecting 10).wired .ref1).collected ≠ [] ∧ ((collecting 10).wired .ref1).collected.length < 11
      ∧ ((collecting 10).advance 0).octetLate .ref1 = false ∧ ((collecting 11).wired .ref1).collected.length = 11
      ∧ ((out (.messageOctet 0 .ref1 0x5A) (collecting 11)).wired .ref1).message
          = some { arrived := 5000000, contents := messageContents goodMessage }
      ∧ ((collecting 10).wired .ref1).octetEnd + 5000 < ((collecting 10).advance 0).time.elapsed := by decide +kernel

/-- An octet that begins more than 5 ms after the last one finds the receiver hunting. -/
theorem test_referenceMessages_late_met :
    ((collecting 10).wired .ref1).octetEnd + 5000 + 1041 < ((collecting 10).advance 1050).time.elapsed
      ∧ ((out (.messageOctet 1050 .ref1 0x5A) (collecting 10)).wired .ref1).collected = []
      ∧ ((out (.messageOctet 1050 .ref1 0xA5) (collecting 10)).wired .ref1).collected = [0xA5] := by decide +kernel

/-- One wrong octet of the end, the check or the status makes a message invalid. -/
theorem test_referenceMessages_valid_met :
    messageContents goodMessage = some { day := 0, second := 2, status := .ok, counter := 0 }
      ∧ messageContents (goodMessage.set 11 0x5B) = none ∧ messageContents (goodMessage.set 9 0xFF) = none
      ∧ messageContents (goodMessage.set 6 4) = none := by decide +kernel

theorem test_messageFraming :
    ((out (.messageFramingError 0 .ref1) (collecting 5)).wired .ref1).collected = []
      ∧ ((out (.messageOctetTimeout 0 .ref1) (collecting 5)).wired .ref1).collected = [] := by decide +kernel

theorem test_leadingEdgeBeginsMark_met :
    base.inReset = false ∧ (base.wired .ref1).lineActive = false
      ∧ ((out (.markLeadingEdge 0 .ref1) base).wired .ref1).mark = some { capture := base.capture, message := none } := by
  decide +kernel

/-- A mark of REF1 in progress since `e`, with a message half a second before it. -/
def progress (e : Nat) : MarkInProgress :=
  { capture := { centre := 900000000, elapsed := e },
    message := some { arrived := e - 500000, contents := some { day := 0, second := 1, status := .ok, counter := 0 } } }

/-- The part with that mark in progress. -/
def marking (e : Nat) : State :=
  { base with refs := { base.refs with
      selected := none
      wired1 := { WiredState.powerOn with lineActive := true, mark := some (progress e) } } }

theorem test_markIsJudged_met :
    (marking 4995000).inReset = false ∧ ((marking 4995000).wired .ref1).mark = some (progress 4995000)
      ∧ ((out (.markTrailingEdge 0 .ref1) (marking 4995000)).source .ref1).state = .qualifying
      ∧ ((out (.markTrailingEdge 0 .ref1) (marking 4995001)).source .ref1).state = .absent
      ∧ (progress 4499999).capture.elapsed + 500000 < ((marking 4499999).advance 0).time.elapsed
      ∧ ((out (.markWidthLimit 0 .ref1) (marking 4499999)).wired .ref1).mark = none := by decide +kernel

/-- The part with that mark in progress, REF1 in a state with nine good and two bad marks, REF2 QUALIFIED or not, and a
selected source. -/
def judged (k : Qualification) (ref2 : Bool) (x : Option Source) : State :=
  { marking 4995000 with
    refs := { (marking 4995000).refs with
      ref1 := { SourceState.absent with
        state := k, good := 9, bad := 2, previousGood := some 0, qualifiedSince := if k = .qualified then some 0 else none }
      ref2 := { SourceState.absent with state := if ref2 then .qualified else .absent }
      selected := x }
    time := { clock with config := { TimeConfig.default with revertHold := 0 } } }

/-- The mark that REF1 then hands the time base. -/
def judgedMark : AcceptedMark :=
  { capture := (progress 4995000).capture, announced := 1000000000, delay := 0, source := .ref1 }

/-- No QUALIFIED source other than REF1 holds a revert instant. -/
theorem test_judged_revertsNone (k : Qualification) (r : Bool) (x : Option Source) :
    (judged k r x).revertsNone .ref1 ∧ (judged k false x).othersUnqualified .ref1 := by
  refine ⟨fun y q h1 h2 h3 => ?_, fun y hy => ?_⟩
  · cases y with
    | ref1 => exact absurd h2 (Nat.lt_irrefl _)
    | ref2 => cases h3
    | ring => cases h3
  · cases y with
    | ref1 => exact absurd rfl hy
    | ref2 => exact fun h => by cases h
    | ring => exact fun h => by cases h

theorem test_markIsJudged_selection_met :
    (∀ k r x, ((judged k r x).wired .ref1).mark = some (progress 4995000))
      ∧ (out (.markTrailingEdge 0 .ref1) (judged .qualified false (some .ref1))).refs.ref1.good = 10
      ∧ (out (.markTrailingEdge 0 .ref1) (judged .qualifying false none)).refs.selected = some .ref1
      ∧ (out (.markTrailingEdge 0 .ref1) (judged .qualifying true (some .ref2))).refs.selected = some .ref1
      ∧ (out (.markTrailingEdge 0 .ref1) (judged .disqualified true (some .ref2))).refs.selected = some .ref2
      ∧ (out (.markTrailingEdge 1 .ref1) (judged .qualified true (some .ref1))).refs.selected = some .ref1 := by
  refine ⟨fun _ _ _ => rfl, ?_⟩
  decide +kernel

/-- A good mark of the selected source reaches the time base: U is its phase error. -/
theorem test_markIsJudged_accepted :
    (out (.markTrailingEdge 0 .ref1) (judged .qualified false (some .ref1))).time.u = judgedMark.eFull.natAbs
      ∧ judgedMark.eFull = -100000000 := by decide +kernel

/-- Marks that come without a message are bad. -/
def unannounced (s : State) : State := s.setWired .ref1
  { s.wired .ref1 with mark := some { progress 4995000 with message := none } }

theorem test_markIsJudged_lost_met :
    (judged .qualified true (some .ref1)).nextBest .ref1 .ref2
      ∧ (out (.markTrailingEdge 0 .ref1) (unannounced (judged .qualified true (some .ref1)))).refs.selected = some .ref2
      ∧ (out (.markTrailingEdge 0 .ref1) (unannounced (judged .qualified false (some .ref1)))).refs.selected = none := by
  refine ⟨⟨by decide, by decide, fun z h1 h2 h3 => ?_⟩, by decide +kernel⟩
  cases z with
  | ref1 => exact absurd rfl h1
  | ref2 => exact absurd rfl h2
  | ring => cases h3

/-- A source whose deadlines lie at five seconds, and REF2 selected beside it. -/
def sources : State :=
  { base with
    refs :=
      { Selector.powerOn with
        ref1 := { state := .qualified, good := 10, bad := 2, previousGood := none, qualifiedSince := some 0,
                  markDeadline := some 5000000, absenceDeadline := some 5000000 }
        selected := some .ref2 }
    time := { clock with config := { TimeConfig.default with revertHold := 5 } } }

theorem test_sourceDeadlines_met :
    sources.inReset = false ∧ (sources.source .ref1).markDeadline = some 5000000
      ∧ 5000000 ≤ (sources.advance 0).time.elapsed ∧ (sources.source .ref1).absenceDeadline = some 5000000
      ∧ sources.refs.selected = some .ref2 ∧ (sources.source .ref1).state = .qualified
      ∧ (sources.time.config.source .ref1).priority < (sources.time.config.source .ref2).priority
      ∧ (sources.source .ref1).qualifiedSince = some 0
      ∧ 0 + sources.time.config.revertHold * 1000000 ≤ (sources.advance 0).time.elapsed := by decide +kernel

theorem test_sourceDeadlines :
    ((out (.markDeadline 0 .ref1) sources).source .ref1).state = .disqualified
      ∧ ((out (.absenceDeadline 0 .ref1) sources).source .ref1).state = .absent
      ∧ (out (.revertInstant 0 .ref1) sources).refs.selected = some .ref1 := by decide +kernel

/-- The same part with REF1 selected, REF2 QUALIFIED or not. -/
def selectedRef1 (ref2 : Bool) : State :=
  { sources with refs := { sources.refs with
      ref2 := { SourceState.absent with state := if ref2 then .qualified else .absent }
      selected := some .ref1 } }

theorem test_sourceDeadlines_lost_met :
    (selectedRef1 true).nextBest .ref1 .ref2 ∧ (selectedRef1 false).othersUnqualified .ref1
      ∧ (selectedRef1 true).time.config.nDisq ≤ ((selectedRef1 true).source .ref1).bad + 1
      ∧ [Instr.markDeadline 0 .ref1, .absenceDeadline 0 .ref1].map (fun i => (out i (selectedRef1 true)).refs.selected)
          = [some .ref2, some .ref2]
      ∧ [Instr.markDeadline 0 .ref1, .absenceDeadline 0 .ref1].map
          (fun i => ((out i (selectedRef1 false)).refs.selected, (out i (selectedRef1 false)).time.mode))
          = [(none, .holdover), (none, .holdover)] := by
  refine ⟨⟨by decide, by decide, fun z h1 h2 h3 => ?_⟩, fun y hy => ?_, by decide +kernel⟩
  · cases z with
    | ref1 => exact absurd rfl h1
    | ref2 => exact absurd rfl h2
    | ring => cases h3
  · cases y with
    | ref1 => exact absurd rfl hy
    | ref2 => exact fun h => by cases h
    | ring => exact fun h => by cases h

/-- The selection stays with a source that keeps its qualification. -/
theorem test_sourceDeadlines_stays_met :
    ((out (.absenceDeadline 0 .ref2) { selectedRef1 true with refs := { (selectedRef1 true).refs with
        ref2 := { (selectedRef1 true).refs.ref2 with absenceDeadline := some 5000000 } } })).refs.selected = some .ref1
      ∧ (selectedRef1 true).revertsNone .ref1 := by
  refine ⟨by decide +kernel, fun x k h1 h2 h3 => ?_⟩
  cases x with
  | ref1 => exact absurd h2 (Nat.lt_irrefl _)
  | ref2 => cases h3
  | ring => cases h3

/-- A TIME body of the master 0xF001 at two seconds and `n` ns into day 0, with a quality code. -/
def timeBody (n q : Nat) : List Byte := [0x01] ++ octets 2 0xF001 ++ octets 2 0 ++ octets 6 (2000000000 + n) ++ [0, 1] ++ octets 1 q

/-- The item that a TIME telegram with that body leaves. -/
def timeItem (n q : Nat) : Item :=
  { position := 1, ends := 40, capture := base.capture, content := .time 0xF000 1 (timeBody n q) }

/-- The part with RING enabled on that master, in a state of qualification. -/
def ringed (k : Qualification) : State :=
  { base with
    refs := { Selector.powerOn with ring := { SourceState.absent with state := k, good := 9, bad := 2 } }
    time := { clock with config := { TimeConfig.default with
      masterAddress := 0xF001, ring := { enable := true, priority := 3, delay := 0 } } } }

/-- What such an item leaves of the RING source. -/
def ringAfter (k : Qualification) (n q : Nat) : Qualification × Nat × Nat :=
  let x := (State.commitItem .a true 0 (ringed k) (timeItem n q)).refs.ring
  (x.state, x.good, x.bad)

theorem test_ringMarkAtCommit_met :
    (base.time.config.ring.enable = false ∧ (ringed .absent).time.config.ring.enable = true)
      ∧ (timeBody 0 1).length = 14 ∧ number ((timeBody 0 1).take 1) = 1
      ∧ number (((timeBody 0 1).drop 1).take 2) = (ringed .absent).time.config.masterAddress
      ∧ number (((timeBody 0 1).drop 5).take 6) = 2000000000
      ∧ (State.commitItem .a true 0 (ringed .absent) (timeItem 0 1)).refs.lastRingSecond = some (0, 2)
      ∧ ringAfter .absent 0 1 = (.qualifying, 1, 0) ∧ ringAfter .disqualified 0 2 = (.qualifying, 1, 0)
      ∧ ringAfter .qualifying 0 1 = (.qualified, 10, 0) ∧ ringAfter .qualified 0 1 = (.qualified, 10, 0)
      ∧ ringAfter .absent 0 3 = (.absent, 9, 2) ∧ ringAfter .disqualified 0 3 = (.disqualified, 0, 2)
      ∧ ringAfter .qualifying 0 3 = (.disqualified, 0, 3) := by decide +kernel

/-- The same part with a selected source, REF2 QUALIFIED or not. -/
def ringedWith (k : Qualification) (ref2 : Bool) (x : Option Source) : State :=
  { ringed k with refs := { (ringed k).refs with
      ref2 := { SourceState.absent with state := if ref2 then .qualified else .absent }
      selected := x } }

theorem test_ringMarkAtCommit_selection_met :
    (ringedWith .qualified false (some .ring)).revertsNone .ring
      ∧ (ringedWith .qualifying false none).othersUnqualified .ring
      ∧ (ringedWith .qualified true (some .ring)).nextBest .ring .ref2
      ∧ (State.commitItem .a true 0 (ringedWith .qualified false (some .ring)) (timeItem 0 1)).time.u = 1000000000
      ∧ (State.commitItem .a true 0 (ringedWith .qualifying false none) (timeItem 0 1)).refs.selected = some .ring
      ∧ (State.commitItem .a true 0 (ringedWith .qualified true (some .ref2)) (timeItem 0 1)).refs.selected = some .ref2
      ∧ (State.commitItem .a true 0 (ringedWith .qualified true (some .ring)) (timeItem 0 3)).refs.selected = some .ref2
      ∧ (State.commitItem .a true 0 (ringedWith .qualified false (some .ring)) (timeItem 0 3)).refs.selected = none := by
  refine ⟨fun y q h1 h2 h3 => ?_, fun y hy => ?_, ⟨by decide, by decide, fun z h1 h2 h3 => ?_⟩, by decide +kernel⟩
  · cases y <;> cases h3
  · cases y with
    | ring => exact absurd rfl hy
    | ref1 => exact fun h => by cases h
    | ref2 => exact fun h => by cases h
  · cases z with
    | ring => exact absurd rfl h1
    | ref2 => exact absurd rfl h2
    | ref1 => cases h3

/-! ### Ring ports and frame engine -/

theorem test_linkReports_first_met :
    base.inReset = false ∧ (base.port .a).reported = false
      ∧ ((out (.firstLinkReport 0 .a true) base).port .a).silenceDeadline = some 5100000
      ∧ ((out (.firstLinkReport 0 .a true) base).port .a).loop = .isOpen := by decide +kernel

theorem test_linkDownDiscards_met :
    withFrame.inReset = false ∧ (withFrame.port .a).reported = true ∧ (withFrame.port .a).up = true
      ∧ ((out (.linkDown 0 .a) withFrame).port .a).badFrames = 1
      ∧ ((linked.port .a).frame = none ∧ (linked.port .a).transmitter = .idle
        ∧ ((out (.linkDown 0 .a) linked).port .a).loop = .isClosed) := by decide +kernel

/-- A frame sent through a link that breaks and comes back while it leaves is lost. -/
theorem test_broken_link_loses_the_frame_sent :
    let s : State := { linked with portB := { upPort with transmitter := .sending .a (some [1]) } }
    ((out (.lastOctetLeft 0 .b) (out (.linkUp 0 .b) (out (.linkDown 0 .b) s))).port .b).lastSent = [] := by
  decide +kernel

/-- The part whose port A is down after a report. -/
def downA (m : LoopMode) : State :=
  { base with portA := { Port.powerOn with reported := true, mode := m, activity := .silent } }

theorem test_linkReports_up_met :
    (downA .auto).inReset = false ∧ ((downA .auto).port .a).reported = true ∧ ((downA .auto).port .a).up = false
      ∧ ((out (.linkUp 0 .a) (downA .autoClose)).port .a).loop = .isClosed
      ∧ ((out (.linkUp 0 .a) (downA .auto)).port .a).loop = .isOpen := by decide +kernel

theorem test_frameStartRoutes_met :
    linked.inReset = false ∧ (linked.port .a).up = true ∧ (linked.port .a).frame = none
      ∧ (linked.port .a).awaitingEnd = false ∧ (linked.port .b).transmitter = .idle
      ∧ ({ linked with portB := { upPort with transmitter := .sending .b none } } : State).portB.transmitter ≠ .idle
      ∧ ((out (.frameStart 0 .a ringHead) linked).port .b).transmitter = .sending .a none
      ∧ ((out (.frameStart 0 .b ringHead) linked).port .b).frame = some (Frame.begin ringHead (some .a) false) := by
  decide +kernel

/-- A TIME telegram's empty slot at address 0xF000, without its check. -/
def slot : List Byte := [0xF0, 0x00, 0x10, 0x01, 0x00, 0x0E] ++ List.replicate 14 0

/-- The part as time master, with a frame in flight. -/
def master : State :=
  { withFrame with time := { clock with config := { TimeConfig.default with masterEnable := true } } }

theorem test_parseCapturesTelegram_met :
    (withFrame.inReset = false ∧ (withFrame.port .a).frame = some inFlight ∧ inFlight.mayParse statusOctets = true
        ∧ classOf (field statusOctets 2 1) (field statusOctets 0 2) = .element .status
        ∧ statusOctets.length = 6 + field statusOctets 4 2)
      ∧ inFlight.mayParse slot = true ∧ field slot 2 1 = 0x10 ∧ field slot 4 2 = 14
      ∧ master.time.config.masterEnable = true ∧ master.time.timeSet = true ∧ master.time.quality = .q1
      ∧ classOf 0x7F 7 = .other ∧ inFlight.processed = true
      ∧ (Frame.begin ringHead none false).mayParse slot = true := by decide +kernel

/-- The frame in flight with `n` of its four telegrams parsed. -/
def after (n : Nat) : State :=
  { withFrame with portA := { withFrame.portA with frame := some { inFlight with parsed := n } } }

theorem test_parse_limits_met :
    inFlight.telegram = none ∧ field inFlight.received 12 2 = 0x9A42 ∧ field inFlight.received 16 1 = 4
      ∧ 6 ≤ statusOctets.length
      ∧ ((out (.telegramParse 0 .a statusOctets) (after 3)).port .a).frame.map (·.parsed) = some 4
      ∧ ((out (.telegramParse 0 .a statusOctets) (after 4)).port .a).frame.map (fun f => (f.parsed, f.telegram))
          = some (4, none)
      ∧ ((out (.readStatus telegram) (after 4)).port .a).frame.map (fun f => (f.parsed, f.telegram)) = some (4, none) := by
  decide +kernel

theorem test_masterFillsSlot :
    (((out (.telegramParse 0 .a slot) master).port .a).frame.bind (·.telegram)).map (fun t => t.sent)
      = some ([0xF0, 0x00, 0x10, 0x01, 0x00, 0x0E, 0x01, 0xF0, 0x00, 0x00, 0x00] ++ octets 6 1000001200
        ++ [0x00, 0x01, 0x01]) := by decide +kernel

/-- The frame once the status telegram has been parsed. -/
def parsed : State := out (.telegramParse 0 .a statusOctets) withFrame

theorem test_checkDecidesTelegram_met :
    parsed.inReset = false ∧ ((parsed.port .a).frame.bind (·.telegram)).isSome = true
      ∧ (((out (.telegramCheck 0 .a (crc16 statusOctets)) parsed).port .a).frame.map (fun f => f.items.length)) = some 1
      ∧ (((out (.telegramCheck 0 .a 0) parsed).port .a).frame.map (fun f => f.items.length)) = some 0
      ∧ crc16 statusOctets ≠ 0 := by decide +kernel

theorem test_cutAndBadFrames_cut_met :
    (withFrame.port .a).frame = some inFlight
      ∧ 1537 ≤ (inFlight.flush.pass (List.replicate 1519 0)).received.length
      ∧ ((out (.frameCut 0 .a (List.replicate 1519 0)) withFrame).port .b).transmitter = .idle := by decide +kernel

/-- The octets that make the frame in flight one of sixty-four octets with a good check. -/
def padding : List Byte :=
  List.replicate 42 0 ++ checkOctets (crc32 (ringHead ++ List.replicate 42 0))

theorem test_cutAndBadFrames_bad_met :
    (withFrame.port .a).frame = some inFlight
      ∧ (inFlight.flush.pass (List.replicate 46 0)).received.length ≤ 1536
      ∧ (inFlight.flush.pass (List.replicate 46 0)).checkGood = false
      ∧ (inFlight.flush.pass []).received.length < 64
      ∧ ((out (.frameEnd 0 .a (List.replicate 46 0)) withFrame).port .a).badFrames = 1 := by decide +kernel

/-- The end of a cut frame. -/
theorem test_cutAndBadFrames_end_met :
    let cut := out (.frameCut 0 .a (List.replicate 1519 0)) withFrame
    (cut.port .a).frame = none ∧ (cut.port .a).awaitingEnd = true
      ∧ ((out (.frameEnd 0 .a []) cut).port .a).awaitingEnd = false := by decide +kernel

/-- A frame of another type in flight on port A. -/
def otherFlight : Frame := Frame.begin (List.replicate 12 0 ++ [0x08, 0x00]) (some .b) false

theorem test_cutAndBadFrames_other_met :
    let s : State := { withFrame with portA := { upPort with frame := some otherFlight } }
    let octets := List.replicate 46 0 ++ checkOctets (crc32 (otherFlight.received ++ List.replicate 46 0))
    let g := otherFlight.flush.pass octets
    (field g.received 12 2 ≠ 0x9A42 ∧ g.checkGood = true ∧ g.received.length = 64)
      ∧ ((out (.frameEnd 0 .a octets) s).port .a).silenceDeadline = (s.port .a).silenceDeadline
      ∧ ((out (.frameEnd 0 .a octets) s).port .b).transmitter = .sending .a (some g.sent) := by decide +kernel

theorem test_validFrameCommits_met :
    (withFrame.port .a).frame = some inFlight ∧ (inFlight.flush.pass padding).isRing = true
      ∧ (inFlight.flush.pass padding).checkGood = true ∧ (inFlight.flush.pass padding).received.length = 64
      ∧ ((out (.frameEnd 0 .a padding) withFrame).port .a).silenceDeadline = some 5100000 := by decide +kernel

/-- The same under AUTO_CLOSE, SILENT, with a reopen count. -/
def reopening (n : Nat) : State :=
  { withFrame with portA := { withFrame.portA with
      mode := .autoClose, reopenPending := true, reopenCount := n, demand := .isClosed, loop := .isClosed,
      activity := .silent } }

theorem test_validFrameCommits_reopen_met :
    ((out (.frameEnd 0 .a padding) (reopening 1)).port .a).reopenCount = 2
      ∧ ((out (.frameEnd 0 .a padding) (reopening 2)).port .a).reopenPending = false
      ∧ ((out (.frameEnd 0 .a padding) (reopening 2)).port .a).loop = .isOpen
      ∧ ((out (.frameEnd 0 .a padding) (reopening 2)).record.entries.map (·.body.kindType)) = [(8, 1), (6, 4), (6, 6)] := by
  decide +kernel

/-- The part whose port A has a loop state behind its demand, and a silence deadline now. -/
def behindA : State :=
  { base with portA := { upPort with loop := .isClosed, silenceDeadline := some 5000000 } }

theorem test_loopSilenceAndLastOctet_met :
    behindA.inReset = false ∧ (behindA.port .a).demand ≠ (behindA.port .a).loop ∧ (behindA.port .a).transmitter = .idle
      ∧ (behindA.port .a).silenceDeadline = some 5000000 ∧ 5000000 ≤ (behindA.advance 0).time.elapsed
      ∧ (withFrame.port .b).transmitter ≠ .idle
      ∧ ((out (.loopStateChange 0 .a) behindA).port .a).loop = .isOpen
      ∧ ((out (.portSilenceDeadline 0 .a) behindA).port .a).activity = .silent := by decide +kernel

theorem test_lastOctetLeft :
    ({ linked with portB := { upPort with transmitter := .sending .a (some [1]) } } : State).portB.transmitter
        = .sending .a (some [1])
      ∧ ((out (.lastOctetLeft 0 .b)
          { linked with portB := { upPort with transmitter := .sending .a (some [1]) } }).port .b).lastSent = [1] := by
  decide +kernel

theorem test_portsOk_met : State.reset.PortsOk := by
  unfold State.PortsOk Port.Ok
  refine ⟨⟨by decide, by decide, by decide, by decide, by decide, by decide, by decide, ?_⟩,
    ⟨by decide, by decide, by decide, by decide, by decide, by decide, by decide, ?_⟩, fun p q f h => ?_⟩
  · intro f h; cases h
  · intro f h; cases h
  · cases p <;> cases h

/-- A frame in flight that has claimed the other port's transmitter. -/
theorem test_portsOk_claim_met : withFrame.ClaimsOk := by
  intro p q f h k
  cases p with
  | a => cases h; cases k; rfl
  | b => cases h

/-! ### Event record and alarm unit -/

/-- A record with this many entries. -/
def filled (s : State) (n : Nat) : State :=
  { s with record := { s.record with entries := List.replicate n (powerOnEntry 0) } }

/-- What an attempt leaves: entries, losses in the tally, numbers issued. -/
def attempted (s : State) (alarm : Bool) : Nat × Option (Nat × Nat) × Word32 :=
  let t := s.note s.capture (.portLinkUp .a) alarm
  (t.record.occupancy, t.record.tally.map (fun k => (k.routine, k.alarm)), t.record.next)

theorem test_recordAdmitsOrTallies_met :
    [attempted base false, attempted (filled base 7936) false, attempted (filled (gapped base) 7936) false,
      attempted (filled (gapped base) 8190) true, attempted (filled (gapped base) 8191) true,
      attempted (filled base 8192) true, attempted (filled (gapped base) 8192) true]
      = [(2, none, 3), (7936, some (1, 0), 2), (7936, some (2, 0), 2), (8192, none, 4), (8192, some (0, 1), 3),
          (8192, some (0, 1), 2), (8192, some (1, 1), 2)] := by decide +kernel

/-- A raise of QUALITY_Q4 or of a kind whose default is ALERT or RECORD. -/
def raiseOf (k : ActionKind) (q : Bool) : Raise :=
  { kind := k, target := .time, capture := base.capture, body := .portLinkUp .a, qualified := q }

theorem test_raiseAppliesAction_met :
    base.actionOf .qualityQ4 = .latch ∧ base.actionOf .severe = .alert ∧ base.actionOf .onTime = .record
      ∧ (base.setActions 1 [(6, 0)]).actionOf .qualityQ4 = .off
      ∧ base.latchOf .time = none ∧ base.targetHeld .time = true
      ∧ (base.raise (raiseOf .qualityQ4 true)).alarms.output = true
      ∧ ((base.raise (raiseOf .severe true)).record.entries.map (·.alarm)) = [true, true]
      ∧ ((base.raise (raiseOf .severe false)).record.entries.map (·.alarm)) = [true, false]
      ∧ ((base.raise (raiseOf .qualityQ4 true)).latchOf .time).isSome = true := by decide +kernel

/-! ### Elements and supervision -/

/-- A status of the point at address 7 with a sequence number. -/
def status (n : Nat) : ElementTelegram :=
  { kind := .status, address := 7, sequence := n, capture := base.capture, port := .a }

theorem test_sequenceWindow_met :
    (withPoint .moving).element (status 9).address = some (point .moving)
      ∧ bodyValue .status (point .moving).kind [1] = some (.detected .normal) ∧ (point .moving).mode ≠ .ignore
      ∧ (point .moving).sequence .status = some 9
      ∧ (9 + 256 - 9) % 256 = 0 ∧ 128 ≤ (137 + 256 - 9) % 256 ∧ (136 + 256 - 9) % 256 = 127
      ∧ (((withPoint .moving).applyElement (status 137) [1]).element 7).map (·.statusSequence) = some (some 9)
      ∧ (((withPoint .moving).applyElement (status 136) [1]).element 7).map (·.statusSequence) = some (some 136) := by
  decide +kernel

theorem test_sequenceWindow_screened_met :
    (withPoint .moving).element 8 = none ∧ bodyValue .status .point [3] = none
      ∧ ({ point .moving with mode := .ignore } : ElementRecord).mode = .ignore
      ∧ [bodyValue .command .point [2], bodyValue .command .signal [0],
          bodyValue .command .signal [7, 0x41, 0x5A, 0x30, 0x39], bodyValue .status .point [0], bodyValue .status .signal [7, 2]]
        = [some (.target .reverse), some (.aspect 0 none),
            some (.aspect 7 (some { c0 := 0x41, c1 := 0x5A, c2 := 0x30, c3 := 0x39 })), some (.detected .none),
            some (.shown 7 .dark)]
      ∧ [bodyValue .command .point [0], bodyValue .command .signal [0, 0x41, 0x5A, 0x30, 0x39], bodyValue .command .signal [8],
          bodyValue .command .signal [1, 0x40, 0x5A, 0x30, 0x39], bodyValue .status .signal [7, 3]]
        = [none, none, none, none, none] := by decide +kernel

theorem test_acceptedTelegram_met :
    ((withPoint .moving).applyElement (status 10) [0]).record.occupancy = 2
      ∧ (((withPoint .moving).applyElement (status 10) [0]).element 7).map (·.silenceDeadline) = some (some 6500000)
      ∧ (({ withPoint .moving with service := base.service } : State).applyElement (status 10) [0]).element 7
          = some { point .moving with statusSequence := some 10, lastStatus := some { value := .detected .none, stale := false } }
      ∧ bodyValue .command (point .moving).kind [2] = some (.target .reverse)
      ∧ bodyValue .command (signal .observe).kind [0] = some (.aspect 0 none)
      ∧ bodyValue .status (signal .observe).kind [0, 1] = some (.shown 0 .proven) := by decide +kernel

/-- The part in RUN with a point at address 7 that shows a position and moves or not. -/
def showing (d : Option Detected) (m : Option Movement) : State :=
  { running with elements := [{ point .moving with
      lastStatus := d.map (fun x => { value := .detected x, stale := false })
      lastCommand := some { value := .target .normal, stale := false }
      part := .point { pointPart .moving with movement := m } }] }

/-- A capture of the present, and one old enough for the limits of a point to have passed. -/
def fromNow (back : Nat) : Capture := { centre := 0, elapsed := 10000000 - back }

/-- Ten seconds after power-on. -/
def later (s : State) : State := { s with time := { s.time with elapsed := 10000000 } }

theorem test_pointCommand_met :
    (((later (showing (some .normal) none)).pointCommand 7 .normal (fromNow 0)).record.entries.map (·.body.kindType))
        = [(8, 1), (2, 0)]
      ∧ (((later (showing none (some (moving .moving)))).pointCommand 7 .reverse (fromNow 0)).record.entries.map
          (·.body.kindType)) = [(8, 1), (2, 0)]
      ∧ (((later (showing none none)).pointCommand 7 .normal (fromNow 0)).element 7).map
          (fun r => r.movement.map (·.phase)) = some (some .commanded)
      ∧ (((later (showing none none)).pointCommand 7 .normal (fromNow 1000000)).element 7).map
          (fun r => r.movement.map (·.phase)) = some (some .moving)
      ∧ (pointPart .moving).runLimit * 1000000 ≤ 8000000 := by decide +kernel

/-- The phase that a status leaves, and the entries it adds. -/
def afterStatus (s : State) (d : Detected) (c : Capture) : Option Phase × Nat :=
  let t := (later s).pointStatus 7 (some (.detected .normal)) d true c
  (((t.element 7).bind (·.movement)).map (·.phase), t.record.occupancy - 1)

/-- A settling movement with as many bounces as its point allows, or whose run deadline has passed. -/
def bouncing (n : Nat) (passed : Bool) : Movement := { moving .settling with bounces := n, runPassed := passed }

theorem test_pointStatus_met :
    (afterStatus (showing none none) .none (fromNow 0) = (none, 1)
        ∧ afterStatus (showing none none) .reverse (fromNow 0) = (none, 1)
        ∧ afterStatus (showing none none) .normal (fromNow 0) = (none, 0))
      ∧ afterStatus (withPoint .commanded) .none { centre := 0, elapsed := 1999999 } = (some .commanded, 0)
      ∧ afterStatus (withPoint .commanded) .none (fromNow 0) = (some .moving, 0)
      ∧ afterStatus (withPoint .moving) .normal (fromNow 99999) = (some .settling, 0)
      ∧ afterStatus (withPoint .moving) .normal (fromNow 100000) = (none, 2)
      ∧ afterStatus (withPoint .moving) .reverse (fromNow 0) = (some .moving, 0)
      ∧ afterStatus (withPoint .settling) .normal (fromNow 0) = (some .settling, 0)
      ∧ afterStatus (withPoint .settling) .none (fromNow 0) = (some .moving, 0)
      ∧ afterStatus (showing none (some (bouncing 3 false))) .none (fromNow 0) = (none, 2)
      ∧ afterStatus (showing none (some (bouncing 2 true))) .none (fromNow 0) = (none, 2) := by decide +kernel

/-- The confirmation and the cleared-for of the signal at address 7. -/
def signalNow (s : State) : Option (Option (Nat × Bool) × Option TrainTag) :=
  (s.signalPart 7).map (fun g => (g.confirmation.map (fun k => (k.aspect, k.overdue)), g.clearedFor))

theorem test_signalCommand_met :
    signalNow ((later (withSignal .supervise)).signalCommand 7 0 none (fromNow 0)) = some (none, none)
      ∧ signalNow ((later (withSignal .supervise)).signalCommand 7 3 none (fromNow 1499999)) = some (some (3, false), none)
      ∧ signalNow ((later (withSignal .observe)).signalCommand 7 3 none (fromNow 1500000)) = some (some (3, true), none)
      ∧ ((later (withSignal .supervise)).signalCommand 7 3 none (fromNow 1500000)).record.occupancy = 2 := by decide +kernel

/-- The part in RUN with a signal that was commanded to an aspect and cleared for a train. -/
def cleared (k : Nat) : State :=
  { running with elements := [{ signal .supervise with
      lastCommand := some { value := .aspect k none, stale := false }
      part := .signal { signalPart with confirmation := none, clearedFor := some tag } }] }

/-- What a signal status leaves: the contexts, and the entries it adds. -/
def afterSignal (s : State) (old : Option Value) (k : Nat) (l : Lamp) :
    Option (Option (Nat × Bool) × Option TrainTag) × Nat :=
  let t := s.signalStatus 7 old k l true base.capture
  (signalNow t, t.record.occupancy - 1)

theorem test_signalStatus_met :
    [afterSignal (withSignal .supervise) none 2 .proven, afterSignal (withSignal .supervise) none 2 .dark,
      afterSignal (withSignal .observe) none 2 .dark, afterSignal (cleared 0) none 0 .proven,
      afterSignal (cleared 2) (some (.shown 2 .proven)) 0 .proven]
      = [(some (none, some tag), 1), (some (some (2, false), none), 1), (some (some (2, false), none), 0),
          (some (none, none), 1), (some (none, some tag), 1)] := by decide +kernel

theorem test_silenceAndConfirm_silence_met :
    (withPoint .moving).inReset = false ∧ (withPoint .moving).element 7 = some (point .moving)
      ∧ (point .moving).coverage = .observed ∧ (point .moving).silenceDeadline = some 5000000
      ∧ 5000000 ≤ ((withPoint .moving).advance 0).time.elapsed
      ∧ ((out (.elementSilenceDeadline 0 7) (withPoint .moving)).element 7).map (·.coverage) = some .lost := by
  decide +kernel

theorem test_startAndRun_start_met :
    (withPoint .commanded).element 7 = some (point .commanded) ∧ (point .commanded).part = .point (pointPart .commanded)
      ∧ (pointPart .commanded).movement = some (moving .commanded) ∧ (moving .commanded).phase = .commanded
      ∧ (moving .commanded).startDeadline ≤ ((withPoint .commanded).advance 0).time.elapsed
      ∧ ((out (.startDeadline 0 7) (withPoint .commanded)).element 7).map (·.movement)
          = some (some { moving .commanded with phase := .moving }) := by decide +kernel

theorem test_startAndRun_run_met :
    (moving .moving).runDeadline ≤ ((withPoint .moving).advance 0).time.elapsed ∧ (moving .moving).phase ≠ .settling
      ∧ (moving .settling).phase = .settling
      ∧ ((out (.runDeadline 0 7) (withPoint .moving)).element 7).map (·.movement) = some none := by decide +kernel

theorem test_settleDeadlineCompletes_met :
    (withPoint .settling).element 7 = some (point .settling) ∧ (moving .settling).phase = .settling
      ∧ (moving .settling).arrival = some { dated with capture := { centre := 0, elapsed := 4000000 } }
      ∧ (moving .settling).settleDeadline = some 5000000 ∧ (pointPart .settling).history.length ≤ 4
      ∧ (4000000 - (moving .settling).command.capture.elapsed) / 1000 = 2000 ∧ 2000 ≤ (pointPart .settling).warning
      ∧ ((out (.settleDeadline 0 7) (withPoint .settling)).element 7).map (·.movement) = some none := by decide +kernel

/-- A settling point with a low warning duration, after these movements. -/
def slow (h : List Nat) : State :=
  { withPoint .settling with
    elements := [{ point .settling with part := .point { pointPart .settling with warning := 1999, history := h } }] }

theorem test_settleDeadlineCompletes_slow :
    (out (.settleDeadline 0 7) (slow [1, 2, 3, 4])).record.occupancy = 3
      ∧ (out (.settleDeadline 0 7) (slow [1, 2000, 2000, 2000])).record.occupancy = 4
      ∧ (out (.settleDeadline 0 7) (withPoint .settling)).record.occupancy = 2 := by decide +kernel

theorem test_silenceAndConfirm_confirm_met :
    (withSignal .supervise).element 7 = some (signal .supervise) ∧ (signal .supervise).part = .signal signalPart
      ∧ signalPart.confirmation = some confirmation ∧ confirmation.overdue = false
      ∧ confirmation.deadline ≤ ((withSignal .supervise).advance 0).time.elapsed
      ∧ (out (.confirmDeadline 0 7) (withSignal .supervise)).record.occupancy = 2
      ∧ (out (.confirmDeadline 0 7) (withSignal .observe)).record.occupancy = 1 := by decide +kernel

/-! ### Timetable checker -/

/-- The part with a changeover at second 1 and a drain interval. -/
def changing (d : Nat) : State :=
  { base with checker := { Checker.powerOn with schedule := some { instant := { day := 0, second := 1 }, drain := d } } }

theorem test_changeoverAndDrainEnd_met :
    (changing 1).inReset = false ∧ (changing 1).tag .a = .live
      ∧ ({ day := 0, second := 1 } : Instant).nanos ≤ ((changing 1).advance 0).time.centre
      ∧ ((changing 1).advance 0).time.centre < (1 + 1) * 1000000000
      ∧ (1 + 0) * 1000000000 ≤ ((changing 0).advance 0).time.centre
      ∧ (out (.changeover 0) (changing 1)).tag .a = .draining ∧ (out (.changeover 0) (changing 0)).tag .a = .standby := by
  decide +kernel

/-- The part whose tag A drains until second 1, with one entry of it PENDING. -/
def draining : State :=
  { withEntry with
    checker := { withEntry.checker with tagA := .draining, tagB := .live, drainEnd := some 1 } }

theorem test_oneLive_met : State.reset.OneLive ∧ (changing 1).OneLive ∧ draining.OneLive := by
  unfold State.OneLive
  decide +kernel

theorem test_changeoverAndDrainEnd_drain_met :
    draining.inReset = false ∧ draining.tag .a = .draining ∧ draining.checker.drainEnd = some 1
      ∧ 1 * 1000000000 ≤ (draining.advance 0).time.centre
      ∧ ((out (.drainEnd 0) draining).entry 1).map (·.state) = some .withdrawn := by decide +kernel

theorem test_expiryTakesDueEntries_met :
    withEntry.service.state = .run ∧ withEntry.time.quality ≠ .q4 ∧ base.service.state = .config
      ∧ ((out (.timetableExpiry 0) withEntry).entry 1).map (·.state) = some .unobserved := by decide +kernel

/-- The entry of `withEntry` under a tag, its element regained at the window's start or not. -/
def expiring (p : Period) (heard : Bool) : State :=
  { withEntry with
    elements := [{ signal .supervise with regained := if heard then some Stamp.powerOn else none }]
    checker := { withEntry.checker with store := [{ pendingEntry with period := p, windowStart := 0 }] } }

theorem test_expiryTakesDueEntries_outcomes_met :
    ((out (.timetableExpiry 0) (expiring .a true)).entry 1).map (·.state) = some .missed
      ∧ ((out (.timetableExpiry 0) (expiring .a false)).entry 1).map (·.state) = some .unobserved
      ∧ ((out (.timetableExpiry 0) (expiring .b true)).entry 1).map (·.state) = some .withdrawn
      ∧ pendingEntry.expiry * 1000000000 ≤ ((expiring .a true).advance 0).time.centre := by decide +kernel

/-- A train event at the signal of address 7, `m` microseconds into day 0. -/
def trainAt (m : Nat) : TrainEvent :=
  { train := tag, element := 7, check := .cleared, stamp := { day := 0, micros := m, epoch := 1, quality := .q1 } }

theorem test_trainEventVerdict_met :
    bestMatch (withEntry.checker.store.filter (withEntry.eligible (trainAt 900000))) = some pendingEntry
      ∧ ((withEntry.trainEvent (trainAt 900000)).entry 1).map (·.state) = some .matched
      ∧ bestMatch (withEntry.checker.store.filter (withEntry.eligible (trainAt 1000000))) = some pendingEntry
      ∧ bestMatch (withEntry.checker.store.filter (withEntry.eligible (trainAt 1000001))) = none
      ∧ pendingEntry.classOf (-31) = .early ∧ pendingEntry.classOf (-30) = .onTime ∧ pendingEntry.classOf 30 = .onTime
      ∧ pendingEntry.classOf 31 = .late ∧ pendingEntry.classOf 60 = .late ∧ pendingEntry.classOf 61 = .severe := by
  decide +kernel

theorem test_trainEventVerdict_eligible_met :
    pendingEntry ∈ withEntry.checker.store ∧ withEntry.tag pendingEntry.period = .live ∧ pendingEntry.train = tag
      ∧ pendingEntry.windowStart * 1000000 ≤ 0 ∧ 1000000 ≤ pendingEntry.expiry * 1000000
      ∧ (∀ x ∈ withEntry.checker.store, x ≠ pendingEntry → x.id ≠ pendingEntry.id)
      ∧ (withEntry.trainEvent (trainAt 1000001)).record.entries.map (·.body.kindType) = [(8, 1), (4, 5)]
      ∧ (withEntry.trainEvent (trainAt 1000001)).checker = withEntry.checker := by decide +kernel

/-! ### Clock lines -/

theorem test_pulseStartsAndSense_met :
    (withLine running1).inReset = false ∧ ((withLine running1).line .one).state = .running
      ∧ (withLine running1).time.timeSet = true ∧ ((withLine running1).line .one).pulse = none
      ∧ ((withLine running1).line .one).lastStart = none ∧ ((withLine running1).line .one).shown = some 719
      ∧ ((withLine running1).line .one).polarity = some .positive
      ∧ behind (((withLine running1).advance 0).time.target 60) 719 60 = 1 ∧ 1 + 60 * 60 / 60 + 1 ≤ positions 60
      ∧ ((withLine running1).line .one).overCurrent = false
      ∧ ((out (.pulseStart 0 .one) (withLine running1)).line .one).bridge = .negative
      ∧ ((out (.pulseStart 0 .one) (withLine { running1 with overCurrent := true })).line .one).shortCount = 1
      ∧ ((out (.pulseStart 0 .one) (withLine { running1 with overCurrent := true })).line .one).state = .retry
      ∧ ((out (.pulseStart 0 .one) (withLine { running1 with overCurrent := true, shortCount := 2 })).line .one).state
          = .latchedOff := by
  decide +kernel

theorem test_pulseEnds_met :
    ((withLine { running1 with pulse := some (pulseOf true) }).line .one).pulse = some (pulseOf true)
      ∧ (pulseOf true).deadline ≤ ((withLine running1).advance 0).time.elapsed ∧ (pulseOf false).currentSeen = false
      ∧ ((out (.pulseEnd 0 .one) (withLine { running1 with pulse := some (pulseOf true) })).line .one).shown = some 0
      ∧ ((out (.pulseEnd 0 .one) (withLine { running1 with pulse := some (pulseOf false) })).line .one).openReported
          = true := by decide +kernel

theorem test_overcurrentCutsPulse_met :
    ((withLine { running1 with pulse := some (pulseOf true), shortCount := 1 }).line .one).shortCount + 1 < 3
      ∧ 3 ≤ ((withLine { running1 with pulse := some (pulseOf true), shortCount := 2 }).line .one).shortCount + 1
      ∧ ((out (.overcurrent 0 .one true)
          (withLine { running1 with pulse := some (pulseOf true), shortCount := 1 })).line .one).state = .retry
      ∧ ((out (.overcurrent 0 .one true)
          (withLine { running1 with pulse := some (pulseOf true), shortCount := 2 })).line .one).state = .latchedOff := by
  decide +kernel

theorem test_pulseStartsAndSense_retry_met :
    ((withLine { running1 with state := .retry, retryDeadline := some 5000000 }).line .one).retryDeadline = some 5000000
      ∧ 5000000 ≤ ((withLine running1).advance 0).time.elapsed
      ∧ (((out (.currentPresent 0 .one true)
          (withLine { running1 with pulse := some (pulseOf false) })).line .one).pulse.map (·.currentSeen)) = some true
      ∧ ((out (.retryDeadline 0 .one)
          (withLine { running1 with state := .retry, retryDeadline := some 5000000 })).line .one).state = .running := by
  decide +kernel

theorem test_linesOk_met : State.reset.LinesOk ∧ (withLine running1).line1.Ok := by
  have h : ∀ n : Nat, (none : Option Nat) = some n → n < positions 60 := fun n h => by cases h
  have k : ∀ n : Nat, (some 719 : Option Nat) = some n → n < positions 60 := fun n h => by cases h; decide
  refine ⟨⟨?_, ?_⟩, ?_⟩
  · exact ⟨by decide, by decide, by decide, by decide, by decide, by decide, h, by decide, by decide, by decide⟩
  · exact ⟨by decide, by decide, by decide, by decide, by decide, by decide, h, by decide, by decide, by decide⟩
  · exact ⟨by decide, by decide, by decide, by decide, by decide, by decide, k, by decide, by decide, by decide⟩

/-! ### Service responder -/

/-- The result that a service row gets in a processed frame of a state. -/
def answered (s : State) (i : Instr) : Option Result :=
  match ((out i s).port .a).frame.bind (fun f => f.telegram.bind (fun x => x.content)) with
  | some (.service _ _ r _ _) => some r
  | _ => none

/-- The frame of `withFrame` over the tables of one signal and one standby entry, in CONFIG. -/
def serviced : State :=
  { withFrame with
    elements := [{ signal .supervise with part := .signal { signalPart with confirmation := none } }]
    checker := { Checker.powerOn with store := [{ pendingEntry with period := .b }] } }

theorem test_requestIsAnsweredAsItPasses_met :
    (Instr.readStatus telegram).request = some (telegram, .readStatus) ∧ (Instr.readStatus telegram).wellFormed = true
      ∧ serviced.inReset = false ∧ (serviced.port telegram.port).frame = some inFlight
      ∧ inFlight.mayParse (serviceOctets telegram .readStatus) = true ∧ inFlight.processed = true
      ∧ telegram.address.toNat = serviced.service.stationAddress ∧ telegram.result = 0x00
      ∧ ({ telegram with result := 1 } : Telegram).result ≠ 0x00
      ∧ answered serviced (.readStatus { telegram with result := 1 }) = none := by decide +kernel

/-- Every service row, once on operands that its rule grants. -/
theorem test_every_service_row_is_granted :
    [Instr.readStatus telegram, .setTimeConfiguration telegram timeParams, .setLocalOffset telegram (some 840) none,
      .setRingPort telegram 1 2 10, .loadElement telegram loadParams, .setElementMode telegram 7 1,
      .readElement telegram 7 1, .setTimetableSettings telegram 7200 600,
      .setChangeover telegram (some { day := 0, second := 2 }) none, .loadEntry telegram entryParams,
      .withdrawEntry telegram 1, .erasePeriod telegram 2, .readEntry telegram 1 1, .readRecord telegram 1,
      .acknowledgeRecord telegram 1, .setActions telegram 1 ((1, 0) :: List.replicate 7 (0, 0)),
      .acknowledgeAlarm telegram 2 0, .setClockLine telegram lineParams, .requestState telegram 2,
      .setRunCondition telegram 0, .acknowledgeErrorIndication telegram, .restart telegram].all
      (fun i => decide (answered serviced i = some .done)) = true := by decide +kernel

theorem test_unload_is_granted : answered withFrame (.unloadElement telegram 7) = some .notFound
    ∧ answered serviced (.unloadElement telegram 7) = some .done := by decide +kernel

/-- A read that finds nothing carries the count; a refused one leaves its reply area (log 41). -/
theorem test_read_not_found_carries_count :
    (serviced.judge (.readElement 9 1)).1 = .notFound
      ∧ serviced.replyOf (some (.readElement 9 1)) .notFound = [0x00, 0x01] ++ List.replicate 94 0x00
      ∧ serviced.replyOf (some (.readElement 9 1)) .refusedArgument = [] := by decide +kernel

/-- A row of each refusal, on the same state. -/
theorem test_refusals :
    answered serviced (.setLocalOffset telegram (some 841) none) = some .refusedArgument
      ∧ answered serviced (.setRingPort telegram 3 1 100) = some .refusedArgument
      ∧ answered serviced (.setRingPort telegram 1 1 9) = some .doneClamped
      ∧ answered serviced (.setElementMode telegram 8 1) = some .notFound
      ∧ answered serviced (.setChangeover telegram (some { day := 0, second := 1 }) none) = some .tooLate
      ∧ answered serviced (.loadEntry telegram { entryParams with late := 61 }) = some .badTolerance
      ∧ answered serviced (.loadEntry telegram { entryParams with element := 8 }) = some .notATimetablePoint
      ∧ answered serviced (.erasePeriod telegram 1) = some .refusedState
      ∧ answered serviced (.acknowledgeRecord telegram 2) = some .refusedArgument
      ∧ answered serviced (.setActions telegram 2 (List.replicate 8 (1, 0))) = some .refusedArgument := by decide +kernel

theorem test_tableRequestsAreJudged_load_met :
    loadArguments loadParams = some (.signal, .supervise, true) ∧ loadArguments { loadParams with kind := 3 } = none
      ∧ base.element loadParams.address = none ∧ base.elements.length < 2048 ∧ base.judgeLoad loadParams = .done
      ∧ running.judgeLoad loadParams = .refusedState
      ∧ base.judgeLoad { loadParams with silence := some 99 } = .doneClamped
      ∧ (base.judge (.unloadElement 7)).1 = .notFound
      ∧ ({ base with elements := [{ signal .supervise with references := 1 }] } : State).judgeLoad
          { loadParams with timetablePoint := 0 } = .referenced := by decide +kernel

/-- The limits of a point's fields, each at its end and one past it. -/
theorem test_tableRequestsAreJudged_clamped_met :
    let k : LoadElementParams := { loadParams with kind := 2, timetablePoint := 0 }
    [{ k with run := some 30 }, { k with bounces := some 15 }, { k with silence := some 10000 }].map base.judgeLoad
        = [.done, .done, .done]
      ∧ [{ k with run := some 31 }, { k with bounces := some 16 }, { k with silence := some 10001 }].map base.judgeLoad
        = [.doneClamped, .doneClamped, .doneClamped] := by decide +kernel

theorem test_settingsRequestsAreJudged_met :
    (base.judge (.setTimeConfiguration timeParams)).1 = .done
      ∧ (base.judge (.setTimeConfiguration { timeParams with kp := 9, ki := 9 })).1 = .doneClamped
      ∧ (base.judge (.setTimeConfiguration { timeParams with kp := 8, ki := 8 })).1 = .refusedArgument
      ∧ (running.judge (.setTimeConfiguration timeParams)).1 = .refusedState
      ∧ (base.judge (.setLocalOffset (some 840) (some { day := 0, second := 86400 }))).1 = .refusedArgument
      ∧ (base.judge (.setChangeover (some { day := 0, second := 2 }) (some 21601))).1 = .doneClamped
      ∧ (base.judge (.setClockLine lineParams)).1 = .done
      ∧ (base.judge (.setClockLine { lineParams with shown := none })).1 = .refusedArgument
      ∧ (base.judge (.setClockLine { lineParams with width := some 1801 })).1 = .doneClamped
      ∧ base.judge (.requestState 2) = (.refusedState, some .noElements) ∧ inFlight.superseding = false := by decide +kernel

/-- A frame with an accepted RESTART pending supersedes what follows it. -/
theorem test_restartIsAnswered_met :
    let i : Item :=
      { position := 1, ends := 40, capture := base.capture, content := .service 0x53 (some .restart) .done none 0 }
    base.answer { inFlight with items := [i] } (some .readStatus) = (.superseded, none)
      ∧ base.answer inFlight (some .restart) = (.done, none) := by decide +kernel

/-- The table at its capacity, with no record at address 7. -/
theorem test_loadElementJudged_full :
    ({ base with elements := List.replicate 2048 { signal .supervise with address := 8 } } : State).judgeLoad loadParams
      = .full := by decide +kernel

theorem test_errorIndication_met :
    (base.indicate 0x04 .refusedArgument none).service.error.isSome = true
      ∧ ((base.indicate 0x04 .refusedArgument none).indicate 0x52 .done none).service.error = none
      ∧ (base.indicate 0x01 .refusedArgument none).service.error = none := by decide +kernel

/-- The frame of `withFrame` once a SERVICE telegram with this code and body length has been parsed. -/
def malformed (code : Byte) (n : Nat) : Option (List Byte × Bool) :=
  let o := [0xF0, 0x00, 0x20, 0x01, 0x00, BitVec.ofNat 8 n] ++ (code :: List.replicate (n - 1) 0x00).take n
  ((out (.telegramParse 0 .a o) withFrame).port .a).frame.bind (fun f => f.telegram.map (fun x => (x.sent.drop 6, x.inserted)))

theorem test_malformedRequests_met :
    malformed 0x01 0 = some ([], false) ∧ malformed 0x7F 3 = some ([0x7F, 0x00, 0x04], true)
      ∧ malformed 0x11 3 = some ([0x11, 0x00, 0x04], true) ∧ malformed 0x11 5 = some ([0x11, 0x00, 0x00, 0x04, 0x00], true)
      ∧ malformed 0x11 4 = some ([0x11, 0x00, 0x00, 0x04], true) := by decide +kernel

theorem test_readReplies_met :
    serviced.element 7 ≠ none ∧ serviced.entry 1 ≠ none ∧ serviced.record.entries.map (·.sequence) = [1]
      ∧ (serviced.recordReply 1).take 12 = [1, 0, 0, 0, 0, 1, 0, 0, 0, 2, 0, 1]
      ∧ (serviced.recordReply 0).take 6 = [1, 0, 0, 0, 0, 1]
      ∧ (serviced.recordReply 2).take 6 = [0, 0, 0xFF, 0xFF, 0xFF, 0xFF]
      ∧ (serviced.elementReply (serviced.findElement 0 .following)).take 6 = [0, 1, 0, 7, 1, 3]
      ∧ (serviced.entryReply (serviced.findEntry 1 .exact)).take 5 = [0, 1, 0, 1, 2] := by decide +kernel

theorem test_restartCommitClears :
    (serviced.applyRequest .restart).elements = [] ∧ (serviced.applyRequest .restart).record.occupancy = 2 := by
  decide +kernel

theorem test_parametersReadBack_met :
    (Request.setTimeConfiguration timeParams).wellFormed = true
      ∧ readRequest 0x02 (parameterOctets (.setTimeConfiguration timeParams)) = some (.setTimeConfiguration timeParams)
      ∧ readRequest 0x03 (parameterOctets (.setLocalOffset (some (-720)) none)) = some (.setLocalOffset (some (-720)) none)
      ∧ (Request.setActions 1 (List.replicate 8 (1, 3))).wellFormed = true := by decide +kernel

/-- The first and the last code of the table, and two codes outside it. -/
theorem test_parametersReadBack_table_met :
    codeOf .readStatus = 0x01 ∧ lengthsOf 0x01 = some (0, 224) ∧ codeOf .restart = 0x53 ∧ lengthsOf 0x53 = some (0, 0)
      ∧ lengthsOf 0x00 = none ∧ lengthsOf 0x54 = none
      ∧ serviceOctets telegram (.requestState 2) = [0xF0, 0x00, 0x20, 0x01, 0x00, 0x03, 0x50, 0x02, 0x00] := by decide +kernel

theorem test_settingsTakeEffect_met :
    isRead .readStatus = true ∧ base.service.state = .config ∧ running.service.state = .run
      ∧ portOf 1 = some .a ∧ loopModeOf 4 = some .alwaysClosed ∧ behindA.portA.silenceDeadline.isSome = true
      ∧ base.checker.tagA ≠ .draining ∧ base.checker.tagB ≠ .draining
      ∧ base.time.centre < ({ day := 0, second := 2 } : Instant).nanos
      ∧ pairsAccepted ([(1, 0), (27, 3)].take 2) = true ∧ kindOf 27 = some .jabber ∧ actionCode 3 = some .latch
      ∧ (base.applyRequest (.setActions 2 [(1, 0), (27, 3)])).actionOf .jabber = .latch
      ∧ (base.applyRequest (.setLocalOffset (some 60) (some { day := 0, second := 2 }))).time.localOffset = 0
      ∧ (base.applyRequest (.setLocalOffset (some 60) (some { day := 0, second := 1 }))).time.localOffset = 60
      ∧ serviced.anyObserved = true ∧ serviced.time.timeSet = true
      ∧ (serviced.applyRequest (.requestState 2)).service.state = .run
      ∧ ((withPoint .moving).applyRequest (.requestState 1)).elements.map (·.movement) = [none]
      ∧ ((withPoint .moving).applyRequest (.requestState 1)).record.entries.map (·.body.kindType)
          = [(8, 1), (8, 3), (2, 0)]
      ∧ ((withPoint .moving).applyRequest .restart).record.entries.map (·.body.kindType)
          = [(8, 1), (8, 2), (8, 3), (2, 0)] := by decide +kernel

/-- Entering RUN expires what is due, its element not heard; at Q4 it expires nothing. -/
theorem test_settingsTakeEffect_enterRun_met :
    let s : State := { withEntry with service := base.service }
    s.service.state = .config ∧ s.anyObserved = true ∧ s.time.timeSet = true
      ∧ ((s.applyRequest (.requestState 2)).entry 1).map (·.state) = some .unobserved
      ∧ (({ s with time := { s.time with quality := .q4 } } : State).applyRequest (.requestState 2)).checker = s.checker := by
  decide +kernel

/-- Codes of the requests on settings, and a REQUEST STATE for the state held. -/
theorem test_settingsTakeEffect_codes_met :
    placeIn [PortId.a, .b] .b = 2 ∧ placeIn [LoopMode.auto, .autoClose, .alwaysOpen, .alwaysClosed] .alwaysClosed = 4
      ∧ ((base.applyRequest (.setRingPort 2 4 100)).port .b).mode = .alwaysClosed
      ∧ (∀ x ∈ [(1, 0), (27, 3)].take 2, 1 ≤ x.1 ∧ x.1 ≤ 27 ∧ x.2 ≤ 3) ∧ (([(1, 0), (27, 3)].take 2).map Prod.fst).Nodup
      ∧ running.applyRequest (.requestState 2) = running ∧ base.applyRequest (.requestState 1) = base := by decide +kernel

/-- SET TIME CONFIGURATION with REF1 disabled, and one that lets REF1 displace REF2 at once. -/
theorem test_timeAndLineSettings_met :
    base.judgeTimeConfig timeParams = .done ∧ base.judgeClockLine lineParams = .done
      ∧ (sources.applyRequest (.setTimeConfiguration { timeParams with nDisq := 1, revertHold := 4 })).refs.selected
          = some .ref1
      ∧ ((sources.applyRequest (.setTimeConfiguration { timeParams with nDisq := 1 })).source .ref1).bad = 1
      ∧ ((sources.applyRequest (.setTimeConfiguration
          { timeParams with ref1 := { enable := 0, priority := 1, delay := 0 } })).source .ref1).state = .absent
      ∧ (losing.applyRequest (.setTimeConfiguration
          { timeParams with ref1 := { enable := 0, priority := 1, delay := 0 } })).time.mode = .holdover
      ∧ (base.applyRequest (.setClockLine lineParams)).line1.state = .running
      ∧ ((withLine { running1 with pulse := some (pulseOf true), drive := true }).applyRequest
          (.setClockLine lineParams)).line1.pulse = none := by decide +kernel

/-- The reason of a SOURCE CHANGE entry. -/
def changeReason : EntryBody → Option SelectReason
  | .timeSourceChange _ _ r => some r
  | _ => none

/-- REF2 is selected in place of a disabled REF1, or at the end of HOLDOVER; the loss of REF1 with time unset. -/
theorem test_timeAndLineSettings_selection_met :
    let off := { timeParams with ref1 := { enable := 0, priority := 1, delay := 0 } }
    let moved := (selectedRef1 true).applyRequest (.setTimeConfiguration off)
    let held : State := { sources with
      refs := { sources.refs with selected := none }, time := { sources.time with mode := .holdover } }
    let unset : State := { losing with time := TimeBase.powerOn }
    ((selectedRef1 true).judge (.setTimeConfiguration off)).1 = .done ∧ moved.refs.selected = some .ref2
      ∧ moved.record.entries.filterMap (fun e => changeReason e.body) = [.configured]
      ∧ (held.applyRequest (.setTimeConfiguration timeParams)).refs.selected = some .ref1
      ∧ (held.applyRequest (.setTimeConfiguration timeParams)).time.mode = .slew
      ∧ (unset.applyRequest (.setTimeConfiguration off)).refs.selected = none
      ∧ (unset.applyRequest (.setTimeConfiguration off)).record.entries.filterMap (fun e => changeReason e.body) = [.lost] := by
  decide +kernel

theorem test_alarmOk_met : State.reset.AlarmOk ∧ base.AlarmOk := by
  unfold State.AlarmOk
  decide +kernel

/-- The part in CONFIG, at rest, with one timetable-point signal and one entry that names it. -/
def quiet : State :=
  { serviced with
    elements := [{ signal .supervise with
      silenceDeadline := none, references := 1, part := .signal { signalPart with confirmation := none } }] }

theorem test_tablesOk_met : quiet.TablesOk ∧ (withPoint .moving).TablesOk := by
  refine ⟨⟨trivial, ?_, by decide, trivial, by decide⟩, ⟨trivial, ?_, by decide, trivial, by decide⟩⟩
    <;> (intro r hr; cases hr with
      | head => decide
      | tail _ h => cases h)

theorem test_quietInConfig_met : quiet.service.state = .config ∧ quiet.QuietInConfig := by
  refine ⟨rfl, fun _ r hr => ?_⟩
  cases hr with
  | head => exact ⟨rfl, rfl, rfl, fun g hg => by cases hg; rfl⟩
  | tail _ h => cases h

theorem test_referencesOk_met : quiet.ReferencesOk := by
  unfold State.ReferencesOk
  decide +kernel

/-- A latched fault. -/
def latched : Latched := { kind := .escalated, stamp := Stamp.powerOn }

/-- A line that has escalated, its latch held. -/
def escalated : State :=
  { base with
    line1 := { running1 with state := .latchedOff, shortCount := 3 }
    alarms := { AlarmUnit.powerOn with line1 := some latched, output := true } }

theorem test_tableRequestsTakeEffect_met :
    loadArguments loadParams = some (.signal, .supervise, true) ∧ serviced.judgeLoad loadParams = .done
      ∧ serviced.service.state = .config ∧ (serviced.element 7).map (·.references) = some 0
      ∧ elementModeOf 1 = some .ignore
      ∧ ((serviced.applyRequest (.setElementMode 7 1)).element 7).map (·.coverage) = some .never
      ∧ entryArguments entryParams = some (.b, .cleared) ∧ serviced.judgeLoadEntry entryParams = .done
      ∧ (serviced.entry 1).map (·.state) = some .pending
      ∧ ((serviced.applyRequest (.withdrawEntry 1)).entry 1).map (·.state) = some .withdrawn
      ∧ periodOf 2 = some .b ∧ serviced.tag .b = .standby
      ∧ (serviced.applyRequest (.erasePeriod 2)).checker.store = []
      ∧ serviced.record.holds 1 = true ∧ serviced.record.tally = none
      ∧ (serviced.applyRequest (.acknowledgeRecord 1)).record.entries = [] := by decide +kernel

/-- Codes of the requests on tables, at the ends of their ranges. -/
theorem test_tableRequestsTakeEffect_codes_met :
    loadParams.kind = placeIn [ElementKind.signal, .point] .signal
      ∧ loadParams.mode = placeIn [ElementMode.ignore, .observe, .supervise, .test] .supervise
      ∧ entryParams.period = placeIn [Period.a, .b] .b ∧ entryParams.check = placeIn [CheckKind.cleared, .passed] .cleared
      ∧ (serviced.judge (.loadElement loadParams)).1 = .done ∧ (serviced.judge (.loadEntry entryParams)).1 = .done
      ∧ serviced.element 7 ≠ none ∧ serviced.latchOf (.port .b) = none
      ∧ serviced.applyRequest (.acknowledgeAlarm 6 0) = serviced := by decide +kernel

/-- A change of mode from SUPERVISE abandons, and keeps the cleared-for in OBSERVE alone. -/
theorem test_setElementMode_contexts :
    ((withPoint .moving).applyRequest (.setElementMode 7 2)).record.entries.map (·.body.kindType) = [(8, 1), (2, 0)]
      ∧ ((withSignal .observe).applyRequest (.setElementMode 7 3)).elements.map (·.confirmation) = [some confirmation]
      ∧ ((withSignal .supervise).applyRequest (.setElementMode 7 2)).elements.map (·.confirmation) = [none] := by
  decide +kernel

/-- A committed service item applies its request, but not one whose entry has gone. -/
theorem test_errorIndication_item_met :
    let i (k : Nat) : Item :=
      { position := 1, ends := 40, capture := base.capture, content := .service 0x23 (some (.withdrawEntry 1)) .done none k }
    ((State.commitItem .a true 0 serviced (i 0)).entry 1).map (·.state) = some .withdrawn
      ∧ ((State.commitItem .a true 1 serviced (i 0)).entry 1).map (·.state) = some .pending
      ∧ (serviced.judge (.withdrawEntry 9)).1 = .notFound := by decide +kernel

/-- WITHDRAW ENTRY leaves an entry that the other port's frame put in place of the one it named. -/
theorem test_withdraw_leaves_a_replacement :
    ((serviced.commitService 0x23 (some (.withdrawEntry 1)) .done none 0 1).entry 1).map (·.state) = some .pending
      ∧ ((serviced.commitService 0x23 (some (.withdrawEntry 1)) .done none 0 0).entry 1).map (·.state)
          = some .withdrawn := by decide +kernel

theorem test_acknowledgeRecord_gap_met :
    (gapped base).record.holds 1 = true ∧ (gapped base).record.tally = some tally
      ∧ (gapped base).record.entries.map (·.sequence) = [1]
      ∧ ((gapped base).applyRequest (.acknowledgeRecord 1)).record.entries.map (·.body) = [.gap tally]
      ∧ ((gapped base).applyRequest (.acknowledgeRecord 0)).record.occupancy = 2
      ∧ ((gapped base).applyRequest (.acknowledgeRecord 2)).record.occupancy = 2 := by decide +kernel

/-- An acknowledge whose entry the other port's frame removed in between removes nothing, and the GAP rule follows. -/
theorem test_acknowledgeRecord_gone :
    (gapped base).standsAtCommit (.acknowledgeRecord 2) = true
      ∧ ((gapped base).applyRequest (.acknowledgeRecord 2)).record.entries.map (·.body.kindType) = [(8, 1), (9, 0)] := by
  decide +kernel

/-- A LATCHED_OFF line whose latch was acknowledged before. -/
theorem test_acknowledgeAlarm_without_latch :
    ({ escalated with alarms := AlarmUnit.powerOn } : State).latchOf (.line .one) = none
      ∧ (({ escalated with alarms := AlarmUnit.powerOn } : State).applyRequest (.acknowledgeAlarm 3 0)).line1.state
          = .running := by decide +kernel

theorem test_acknowledgeAlarm :
    latchTargetOf 3 0 = some (.line .one) ∧ escalated.targetHeld (.line .one) = true
      ∧ escalated.latchOf (.line .one) = some latched ∧ escalated.line1.state = .latchedOff
      ∧ (escalated.applyRequest (.acknowledgeAlarm 3 0)).line1.state = .running
      ∧ (escalated.applyRequest (.acknowledgeAlarm 3 0)).alarms.output = false := by decide +kernel

theorem test_recordOk_met : State.reset.RecordOk := by
  refine ⟨by decide, by decide, ?_⟩
  simp [numbered, State.reset, State.powerOn, EventRecord.powerOn, powerOnEntry]

theorem test_rowsThatFindNothing_met :
    (State.reset.advance 0).reached (State.reset.port .a).silenceDeadline = false ∧ (State.reset.port .a).frame = none
      ∧ (State.reset.port .a).up = false ∧ (State.reset.wired .ref1).mark = none ∧ (marking 0).refs.wired1.lineActive = true
      ∧ (State.reset.source .ring).state ≠ .qualified ∧ State.reset.time.mode ≠ .holdover
      ∧ State.reset.element 7 = none ∧ State.reset.checker.schedule = none ∧ (State.reset.line .one).state ≠ .running := by
  decide +kernel

/-- A row changes nothing but the time. -/
def idles (x : Instr × State) : Bool :=
  match exec x.1 x.2 with
  | .next t => decide (t = x.2.advance 0)
  | .fault _ => false
  | .refused _ => false

/-- Rows one microsecond before their deadline or one nanosecond before their instant, each of which acts at it. -/
theorem test_rowsThatFindNothing_notReached_met :
    let rows : List (Instr × State) :=
      [(.portSilenceDeadline 0 .a, { base with portA := { upPort with silenceDeadline := some 5000000 } }),
        (.markWidthLimit 0 .ref1, marking 4499999),
        (.messageOctetTimeout 0 .ref1, (collecting 10).setWired .ref1 { (collecting 10).wired .ref1 with octetEnd := 4994999 }),
        (.markDeadline 0 .ref1, sources), (.absenceDeadline 0 .ref1, sources), (.revertInstant 0 .ref1, sources),
        (.holdoverSecond 0, inHoldover), (.secondMarkEnd 0, atBoundary), (.offsetChangeInstant 0, withOffset),
        (.elementSilenceDeadline 0 7, withPoint .moving), (.startDeadline 0 7, withPoint .commanded),
        (.runDeadline 0 7, withPoint .moving), (.settleDeadline 0 7, withPoint .settling),
        (.confirmDeadline 0 7, withSignal .supervise), (.changeover 0, changing 1), (.drainEnd 0, draining),
        (.timetableExpiry 0, withEntry), (.pulseEnd 0 .one, withLine { running1 with pulse := some (pulseOf true) }),
        (.retryDeadline 0 .one, withLine { running1 with state := .retry, retryDeadline := some 5000000 })]
    rows.all (fun x => idles (x.1, before x.2)) = true ∧ rows.any idles = false := by decide +kernel

/-- A PULSE_START that the pulse rule does not allow, at each bound of it. -/
theorem test_rowsThatFindNothing_pulse_met :
    let rows : List Line :=
      [{ running1 with shown := some 0 }, { running1 with shown := some 1 }, { running1 with shown := some 60 },
        { running1 with shown := none }, { running1 with polarity := none }, { running1 with lastStart := some 3000001 },
        { running1 with pulse := some (pulseOf true) }, { running1 with state := .hold }]
    rows.all (fun x => idles (.pulseStart 0 .one, withLine x)) = true
      ∧ [{ running1 with shown := some 61 }, { running1 with lastStart := some 3000000 }].any
          (fun x => idles (.pulseStart 0 .one, withLine x)) = false := by decide +kernel

/-- Reports that tell nothing new, a loop state that is the demand, a frame whose octets are not complete, and a trailing
edge without a mark. -/
theorem test_rowsThatFindNothing_reports_met :
    [(Instr.firstLinkReport 0 .a false, linked), (.linkUp 0 .a, linked), (.linkDown 0 .a, downA .auto),
        (.loopStateChange 0 .a, linked), (.lastOctetLeft 0 .b, withFrame)].all idles = true
      ∧ withFrame.portB.transmitter = .sending .a none
      ∧ ((out (.markTrailingEdge 0 .ref1) ((marking 0).setWired .ref1 { (marking 0).wired .ref1 with mark := none })).wired
          .ref1).lineActive = false := by decide +kernel

end Sys2Proof.Tests
end

section
/-! SUPPORT. Rules of the reference selector and of the parse of a telegram: the commands of the rows, what the
operations leave, the choice of a source, what a good and a bad mark do, messages, and the telegram by its class
(spec/02, spec/03). -/

namespace Sys2Proof.Laws

open Sys2Proof Sys2Proof.Machine

/-! ## The rows of the reference selector -/

/-- Out of reset a row acts on the state that its delay has advanced (R187). -/
theorem timed_of_running {s : State} (h : s.inReset = false) (n : Nat) (f : State → State) :
    s.timed n f = .next (f (s.advance n)) := by
  simp [State.timed, h]

theorem exec_referenceMessage {s : State} (h : s.inReset = false) (dt : Nat) (w : Wired) (o : List Byte) :
    exec (.referenceMessage dt w o) s = .next ((s.advance dt).referenceMessage w o) :=
  timed_of_running h dt (fun s => s.referenceMessage w o)

theorem exec_messageOctet {s : State} (h : s.inReset = false) (dt : Nat) (w : Wired) (b : Byte) :
    exec (.messageOctet dt w b) s = .next ((s.advance dt).messageOctet w b) :=
  timed_of_running h dt (fun s => s.messageOctet w b)

theorem exec_messageOctetTimeout {s : State} (h : s.inReset = false) (dt : Nat) (w : Wired) :
    exec (.messageOctetTimeout dt w) s = .next ((s.advance dt).octetTimeout w) :=
  timed_of_running h dt (fun s => s.octetTimeout w)

theorem exec_messageFramingError {s : State} (h : s.inReset = false) (dt : Nat) (w : Wired) :
    exec (.messageFramingError dt w) s = .next ((s.advance dt).dropPartial w) :=
  timed_of_running h dt (fun s => s.dropPartial w)

theorem exec_markLeadingEdge {s : State} (h : s.inReset = false) (dt : Nat) (w : Wired) :
    exec (.markLeadingEdge dt w) s = .next ((s.advance dt).leadingEdge w) :=
  timed_of_running h dt (fun s => s.leadingEdge w)

theorem exec_markTrailingEdge {s : State} (h : s.inReset = false) (dt : Nat) (w : Wired) :
    exec (.markTrailingEdge dt w) s = .next ((s.advance dt).trailingEdge w) :=
  timed_of_running h dt (fun s => s.trailingEdge w)

theorem exec_markWidthLimit {s : State} (h : s.inReset = false) (dt : Nat) (w : Wired) :
    exec (.markWidthLimit dt w) s = .next ((s.advance dt).widthLimit w) :=
  timed_of_running h dt (fun s => s.widthLimit w)

theorem exec_telegramParse {s : State} (h : s.inReset = false) (dt : Nat) (p : PortId) (o : List Byte) :
    exec (.telegramParse dt p o) s = .next ((s.advance dt).telegramParse p o) :=
  timed_of_running h dt (fun s => s.telegramParse p o)

/-! ## Views of the selector -/

/-- The second write of a wired reference's lines is the one that stays. -/
@[simp] theorem setWired_setWired (s : State) (w : Wired) (a b : WiredState) :
    (s.setWired w a).setWired w b = s.setWired w b := by
  cases w <;> rfl

/-- Writing a source leaves the selection. -/
@[simp] theorem selected_setSource (s : State) (x : Source) (v : SourceState) :
    (s.setSource x v).refs.selected = s.refs.selected := by
  cases x <;> rfl

/-- Writing a source leaves the last ring second. -/
@[simp] theorem lastRingSecond_setSource (s : State) (x : Source) (v : SourceState) :
    (s.setSource x v).refs.lastRingSecond = s.refs.lastRingSecond := by
  cases x <;> rfl

/-- Writing a wired reference's lines leaves the selection. -/
@[simp] theorem selected_setWired (s : State) (w : Wired) (v : WiredState) :
    (s.setWired w v).refs.selected = s.refs.selected := by
  cases w <;> rfl

/-- Writing a wired reference's lines leaves the last ring second. -/
@[simp] theorem lastRingSecond_setWired (s : State) (w : Wired) (v : WiredState) :
    (s.setWired w v).refs.lastRingSecond = s.refs.lastRingSecond := by
  cases w <;> rfl

/-- Two states hold the same reference selector but for the selection. -/
def sameSources (s t : State) : Prop := ∃ o, t.refs = { s.refs with selected := o }

theorem sameSources_of_refs_eq {s t : State} (h : t.refs = s.refs) : sameSources s t := ⟨s.refs.selected, h⟩

theorem sameSources_trans {s t u : State} (h : sameSources s t) (k : sameSources t u) : sameSources s u := by
  obtain ⟨o, ho⟩ := h
  obtain ⟨o', ho'⟩ := k
  exact ⟨o', by rw [ho', ho]⟩

/-- A source is no part of the selection. -/
theorem source_of_sameSources {s t : State} (h : sameSources s t) (x : Source) : t.source x = s.source x := by
  obtain ⟨o, ho⟩ := h
  cases x <;> simp [State.source, ho]

/-- A wired reference's lines are no part of the selection. -/
theorem wired_of_sameSources {s t : State} (h : sameSources s t) (w : Wired) : t.wired w = s.wired w := by
  obtain ⟨o, ho⟩ := h
  cases w <;> simp [State.wired, ho]

/-! ## Agreement outside the blocks that an operation writes -/

theorem setSource_sameBut (s : State) (x : Source) (v : SourceState) : sameBut s (s.setSource x v) [.refs] := by
  intro b hb
  cases b <;> simp_all [Block.same]

theorem setWired_sameBut (s : State) (w : Wired) (v : WiredState) : sameBut s (s.setWired w v) [.refs] := by
  intro b hb
  cases b <;> simp_all [Block.same]

theorem settleQuality_sameBut (s : State) :
    sameBut s s.settleQuality [.time, .record, .alarms, .elements, .checker] := by
  intro b hb
  cases b <;> simp_all [Block.same]

theorem evalQuality_sameBut (s : State) : sameBut s s.evalQuality [.time, .record, .alarms, .elements] := by
  intro b hb
  cases b <;> simp_all [Block.same]

theorem expireDue_sameBut (s : State) : sameBut s s.expireDue [.record, .alarms, .elements, .checker] := by
  intro b hb
  have := expireDue_frame s
  cases b <;> simp_all [Block.same]

/-! ## Quality -/

/-- An evaluation of quality writes the class alone of the time base (R19). -/
theorem evalQuality_time (s : State) : s.evalQuality.time = { s.time with quality := s.classNow } := by
  unfold State.evalQuality State.qualityEntry
  split
  · next h => rw [h]
  · dsimp only
    split <;> simp

/-- With the expiry it releases it writes the class alone of the time base too (R19, R142). -/
theorem settleQuality_time (s : State) : s.settleQuality.time = { s.time with quality := s.classNow } := by
  unfold State.settleQuality
  dsimp only
  split <;> simp [evalQuality_time]

theorem evalQuality_grows (s : State) : recordGrows s s.evalQuality := by
  unfold State.evalQuality State.qualityEntry
  split
  · exact recordGrows_of_eq rfl
  · dsimp only
    split
    · exact raise_grows { s with time := { s.time with quality := s.classNow } } _
    · exact raise_grows { s with time := { s.time with quality := s.classNow } } _
    · exact note_grows { s with time := { s.time with quality := s.classNow } } _ _ _
    · exact note_grows { s with time := { s.time with quality := s.classNow } } _ _ _

theorem verdict_grows (s : State) (c : Capture) (v : VerdictEntry) : recordGrows s (s.verdict c v) := by
  unfold State.verdict
  split
  · exact raise_grows s _
  · exact note_grows s _ _ _

theorem expireEntry_grows (s : State) (e : TimetableEntry) : recordGrows s (s.expireEntry e) := by
  unfold State.expireEntry State.withdraw
  split
  · exact recordGrows_trans (recordGrows_of_eq (by simp)) (verdict_grows _ _ _)
  · exact recordGrows_trans (recordGrows_of_eq (by simp)) (verdict_grows _ _ _)

theorem foldExpire_grows (l : List TimetableEntry) (s : State) : recordGrows s (l.foldl State.expireEntry s) := by
  induction l generalizing s with
  | nil => exact recordGrows_of_eq rfl
  | cons e l ih => exact recordGrows_trans (expireEntry_grows s e) (ih _)

theorem expireDue_grows (s : State) : recordGrows s s.expireDue := by
  unfold State.expireDue
  split
  · exact foldExpire_grows _ s
  · exact recordGrows_of_eq rfl

theorem settleQuality_grows (s : State) : recordGrows s s.settleQuality := by
  unfold State.settleQuality
  dsimp only
  split
  · exact recordGrows_trans (evalQuality_grows s) (expireDue_grows _)
  · exact evalQuality_grows s

/-! ## The record that a raise leaves -/

/-- What a stamp, an admission and a raise read is the same in both states. -/
def sameForRecord (s t : State) : Prop :=
  t.record = s.record ∧ t.alarms = s.alarms ∧ t.elements = s.elements ∧ t.time.centre = s.time.centre
    ∧ t.time.elapsed = s.time.elapsed ∧ t.time.epoch = s.time.epoch ∧ t.time.quality = s.time.quality

section
variable {s t : State} (h : sameForRecord s t)
include h

theorem capture_congr : t.capture = s.capture := by
  obtain ⟨-, -, -, hc, he, -, -⟩ := h
  simp [State.capture, hc, he]

theorem stampOf_congr (c : Capture) : t.stampOf c = s.stampOf c := by
  obtain ⟨-, -, -, -, -, he, hq⟩ := h
  simp [State.stampOf, he, hq]

theorem entryStamp_congr (c : Capture) : t.entryStamp c = s.entryStamp c := by
  have hs := stampOf_congr h c
  obtain ⟨hr, -, -, -, -, he, hq⟩ := h
  simp [State.entryStamp, hs, hr, he, hq]

theorem enrol_congr (d : Draft) : sameForRecord (s.enrol d) (t.enrol d) := by
  have hs := entryStamp_congr h d.capture
  obtain ⟨hr, ha, hl, hc, he, hp, hq⟩ := h
  refine ⟨?_, ha, hl, hc, he, hp, hq⟩
  simp [State.enrol, hs, hr]

theorem tallyLost_congr (d : Draft) : sameForRecord (s.tallyLost d) (t.tallyLost d) := by
  have hs := stampOf_congr h d.capture
  obtain ⟨hr, ha, hl, hc, he, hp, hq⟩ := h
  refine ⟨?_, ha, hl, hc, he, hp, hq⟩
  simp [State.tallyLost, hs, hr]

theorem gapRule_congr : sameForRecord s.gapRule t.gapRule := by
  have hk := capture_congr h
  have hw : ∀ y, sameForRecord (s.enrol (Draft.plain s.capture (.gap y) true))
      (t.enrol (Draft.plain s.capture (.gap y) true)) := fun y => enrol_congr h _
  have hr : t.record = s.record := h.1
  unfold State.gapRule State.writeGap
  rw [hr, hk]
  split
  · split
    · exact h
    · next y _ =>
      obtain ⟨hr', ha, hl, hc, he, hp, hq⟩ := hw y
      exact ⟨by dsimp only; rw [hr'], ha, hl, hc, he, hp, hq⟩
  · exact h

theorem attempt_congr (d : Draft) : sameForRecord (s.attempt d) (t.attempt d) := by
  have hg : sameForRecord (if d.alarm then s.gapRule else s) (if d.alarm then t.gapRule else t) := by
    split
    · exact gapRule_congr h
    · exact h
  unfold State.attempt
  dsimp only
  generalize (if d.alarm = true then s.gapRule else s) = u at *
  generalize (if d.alarm = true then t.gapRule else t) = v at *
  have hroom : v.hasRoom d.alarm = u.hasRoom d.alarm := by simp [State.hasRoom, hg.1]
  rw [hroom]
  split
  · exact enrol_congr hg d
  · exact tallyLost_congr hg d

theorem latchOf_congr (x : LatchTarget) : t.latchOf x = s.latchOf x := by
  obtain ⟨-, ha, hl, -, -, -, -⟩ := h
  cases x with
  | element a => simp [State.latchOf, State.element, hl]
  | time => simp [State.latchOf, ha]
  | line l => cases l <;> simp [State.latchOf, ha]
  | port p => cases p <;> simp [State.latchOf, ha]

theorem setLatch_congr (x : LatchTarget) (v : Option Latched) :
    sameForRecord (s.setLatch x v) (t.setLatch x v) := by
  obtain ⟨hr, ha, hl, hc, he, hp, hq⟩ := h
  cases x with
  | element a => exact ⟨hr, ha, by simp [State.setLatch, State.modifyElement, hl], hc, he, hp, hq⟩
  | time => exact ⟨hr, by simp [State.setLatch, ha], hl, hc, he, hp, hq⟩
  | line l => cases l <;> exact ⟨hr, by simp [State.setLatch, ha], hl, hc, he, hp, hq⟩
  | port p => cases p <;> exact ⟨hr, by simp [State.setLatch, ha], hl, hc, he, hp, hq⟩

theorem latch_congr (x : LatchTarget) (k : LatchKind) (c : Capture) :
    sameForRecord (s.latch x k c) (t.latch x k c) := by
  unfold State.latch
  rw [latchOf_congr h, stampOf_congr h]
  split
  · exact h
  · obtain ⟨hr, ha, hl, hc, he, hp, hq⟩ := setLatch_congr h x (some { kind := k, stamp := s.stampOf c })
    exact ⟨hr, by simp [State.evalAlarm, State.anyLatch, ha, hl], hl, hc, he, hp, hq⟩

/-- A raise leaves the same record and the same latches in states that agree on what it reads (R149, R157). -/
theorem raise_congr (r : Raise) : sameForRecord (s.raise r) (t.raise r) := by
  have ha : t.actionOf r.kind = s.actionOf r.kind := by simp [State.actionOf, h.2.1]
  unfold State.raise
  rw [ha, latchOf_congr h]
  split
  · exact h
  · exact attempt_congr h _
  · exact attempt_congr h _
  · exact attempt_congr (latch_congr h _ _ _) _

end

/-- The record grows from that of a raise on a state that agrees on what a raise reads. -/
theorem recordGrows_raise_congr {s t u : State} (h : sameForRecord s t) (r : Raise) (k : recordGrows (t.raise r) u) :
    recordGrows (s.raise r) u := by
  obtain ⟨l, hl⟩ := k
  exact ⟨l, by rw [hl, (raise_congr h r).1]⟩

theorem setSource_sameForRecord (s : State) (x : Source) (v : SourceState) : sameForRecord s (s.setSource x v) := by
  simp [sameForRecord]

theorem setWired_sameForRecord (s : State) (w : Wired) (v : WiredState) : sameForRecord s (s.setWired w v) := by
  simp [sameForRecord]

/-! ## The choice of a source (R34 to R38) -/

/-- A source of a list is its preferred one when its priority is before that of every other (R34). -/
theorem preferred_eq_some {s : State} {l : List Source} {y : Source} (hy : y ∈ l)
    (h : ∀ z ∈ l, z ≠ y → s.priority y < s.priority z) : s.preferred l = some y := by
  have mem : ∀ {l z}, s.preferred l = some z → z ∈ l := by
    intro l
    induction l with
    | nil => simp [State.preferred]
    | cons x xs ih =>
      intro z hz
      simp only [State.preferred] at hz
      split at hz
      · simp_all
      · next w hw =>
        have := ih hw
        split at hz <;> simp_all
  induction l with
  | nil => simp at hy
  | cons x xs ih =>
    simp only [State.preferred]
    by_cases hx : y = x
    · subst hx
      cases hp : s.preferred xs with
      | none => rfl
      | some z =>
        by_cases hz : z = y
        · simp [hz]
        · have := h z (List.mem_cons_of_mem _ (mem hp)) hz
          simp [Nat.not_lt.mpr this.le]
    · have hyx : y ∈ xs := (List.mem_cons.mp hy).resolve_left hx
      rw [ih hyx (fun z hz => h z (List.mem_cons_of_mem _ hz))]
      simp [h x List.mem_cons_self (Ne.symm hx)]

/-- A list without a member has no preferred source. -/
theorem preferred_filter_eq_none {s : State} {p : Source → Bool} (h : ∀ z, p z = false) :
    s.preferred (allSources.filter p) = none := by
  rw [List.filter_eq_nil_iff.mpr fun z _ => by simp [h z]]
  rfl

/-- The same over the sources that satisfy a condition. -/
theorem preferred_filter_eq_some {s : State} {p : Source → Bool} {y : Source} (hy : p y = true)
    (h : ∀ z, p z = true → z ≠ y → s.priority y < s.priority z) :
    s.preferred (allSources.filter p) = some y := by
  have mem : y ∈ allSources := by cases y <;> decide
  exact preferred_eq_some (List.mem_filter.mpr ⟨mem, hy⟩) fun z hz hne => h z (List.mem_filter.mp hz).2 hne

theorem isQualified_iff {s : State} {x : Source} : s.isQualified x = true ↔ (s.source x).state = .qualified :=
  decide_eq_true_iff

/-- When a source displaces the selected one at its revert instant (R36). -/
theorem mayRevert_iff {s : State} {x y : Source} (h : s.refs.selected = some y) :
    s.mayRevert x = true ↔ (s.source x).state = .qualified ∧ s.priority x < s.priority y
      ∧ ∃ k, (s.source x).qualifiedSince = some k
        ∧ k + s.time.config.revertHold * 1000000 ≤ s.time.elapsed := by
  cases hk : (s.source x).qualifiedSince <;>
    simp [State.mayRevert, h, isQualified_iff, State.revertAt, State.reached, hk, and_assoc]

/-- Where no revert instant is reached no source may revert. -/
theorem mayRevert_eq_false {s : State} {y : Source} (h : s.refs.selected = some y) (hn : s.revertsNone y) (x : Source) :
    s.mayRevert x = false := by
  rw [Bool.eq_false_iff, ne_eq, mayRevert_iff h]
  rintro ⟨hq, hp, k, hk, hle⟩
  exact absurd (hn x k hq hp hk) (Nat.not_lt.mpr hle)

/-- A QUALIFIED selected source stays selected while no revert instant is reached (R34, R36). -/
theorem evalSelection_stays {s : State} {y : Source} (h : s.refs.selected = some y)
    (hq : (s.source y).state = .qualified) (hn : s.revertsNone y) (c : Bool) : s.evalSelection c = s := by
  simp only [State.evalSelection, h, isQualified_iff.mpr hq, if_true,
    preferred_filter_eq_none (mayRevert_eq_false h hn)]

/-- The only source at its revert instant displaces the selected one (R36). -/
theorem evalSelection_reverts {s : State} {x y : Source} (h : s.refs.selected = some y)
    (hq : (s.source y).state = .qualified) (hx : s.mayRevert x = true)
    (hn : ∀ z, z ≠ x → s.mayRevert z = false) : s.evalSelection false = s.select x .revert := by
  have hp : s.preferred (allSources.filter s.mayRevert) = some x :=
    preferred_filter_eq_some hx fun z hz hne => by simp [hn z hne] at hz
  simp [State.evalSelection, h, isQualified_iff.mpr hq, hp]

/-- The only QUALIFIED source is selected where none was (R35). -/
theorem evalSelection_selects {s : State} {x : Source} (h : s.refs.selected = none)
    (hq : (s.source x).state = .qualified) (hn : s.othersUnqualified x) :
    s.evalSelection false = s.select x .qualified := by
  have hb : s.bestQualified = some x :=
    preferred_filter_eq_some (isQualified_iff.mpr hq) fun z hz hne => absurd (isQualified_iff.mp hz) (hn z hne)
  simp [State.evalSelection, h, hb]

/-- The selected source that is no longer QUALIFIED gives way to the best of the others (R34). -/
theorem evalSelection_gives_way {s : State} {x y : Source} (h : s.refs.selected = some x)
    (hq : (s.source x).state ≠ .qualified) (hn : s.nextBest x y) : s.evalSelection false = s.select y .lost := by
  obtain ⟨-, hy, hbest⟩ := hn
  have hb : s.bestQualified = some y :=
    preferred_filter_eq_some (isQualified_iff.mpr hy) fun z hz hne =>
      hbest z (fun hzx => hq (hzx ▸ isQualified_iff.mp hz)) hne (isQualified_iff.mp hz)
  have hx : s.isQualified x = false := by simp [State.isQualified, hq]
  simp [State.evalSelection, h, hx, hb]

/-- With no other QUALIFIED source the selection is lost (R34). -/
theorem evalSelection_loses {s : State} {x : Source} (h : s.refs.selected = some x)
    (hq : (s.source x).state ≠ .qualified) (hn : s.othersUnqualified x) :
    s.evalSelection false = s.loseSelection x := by
  have hall : ∀ z, s.isQualified z = false := by
    intro z
    by_cases hz : z = x
    · simp [State.isQualified, hz, hq]
    · simp [State.isQualified, hn z hz]
  have hb : s.bestQualified = none := preferred_filter_eq_none hall
  simp [State.evalSelection, h, hall x, hb]

/-- An evaluation of the selection leaves the state, selects a source, or loses the selection. -/
theorem evalSelection_cases (s : State) (c : Bool) :
    s.evalSelection c = s ∨ (∃ y r, s.evalSelection c = s.select y r)
      ∨ ∃ x, s.evalSelection c = s.loseSelection x := by
  unfold State.evalSelection
  split
  · split
    · split
      · exact .inr (.inl ⟨_, _, rfl⟩)
      · exact .inl rfl
    · split
      · exact .inr (.inl ⟨_, _, rfl⟩)
      · exact .inr (.inr ⟨_, rfl⟩)
  · split
    · exact .inr (.inl ⟨_, _, rfl⟩)
    · exact .inl rfl

theorem select_refs (s : State) (x : Source) (r : SelectReason) :
    (s.select x r).refs = { s.refs with selected := some x } := by
  simp [State.select]

theorem select_time (s : State) (x : Source) (r : SelectReason) :
    (s.select x r).time = { s.time.endHoldover with stepCount := 0 } := by
  simp [State.select]

theorem select_sameBut (s : State) (x : Source) (r : SelectReason) :
    sameBut s (s.select x r) [.time, .refs, .record, .alarms, .elements] := by
  intro b hb
  cases b <;> simp_all [Block.same, State.select]

theorem loseSelection_refs (s : State) (x : Source) : (s.loseSelection x).refs = { s.refs with selected := none } := by
  unfold State.loseSelection State.enterHoldover
  dsimp only
  split <;> simp

theorem loseSelection_sameBut (s : State) (x : Source) :
    sameBut s (s.loseSelection x) [.time, .refs, .record, .alarms, .elements] := by
  unfold State.loseSelection State.enterHoldover
  dsimp only
  intro b hb
  split <;> cases b <;> simp_all [Block.same]

/-- An evaluation of the selection leaves the sources. -/
theorem evalSelection_sameSources (s : State) (c : Bool) : sameSources s (s.evalSelection c) := by
  obtain h | ⟨y, r, h⟩ | ⟨x, h⟩ := evalSelection_cases s c <;> rw [h]
  · exact sameSources_of_refs_eq rfl
  · exact ⟨_, select_refs s y r⟩
  · exact ⟨_, loseSelection_refs s x⟩

theorem evalSelection_sameBut (s : State) (c : Bool) :
    sameBut s (s.evalSelection c) [.time, .refs, .record, .alarms, .elements] := by
  obtain h | ⟨y, r, h⟩ | ⟨x, h⟩ := evalSelection_cases s c <;> rw [h]
  · exact sameBut_refl s _
  · exact select_sameBut s y r
  · exact loseSelection_sameBut s x

/-! ## A selection that moved is settled (R19) -/

/-- What follows an evaluation of the selection that gives `t` from a selection of `s`: the quality evaluation, where
the selection moved. -/
def settledFrom (s t : State) : State := if t.refs.selected = s.refs.selected then t else t.settleQuality

/-- A bad mark is its source's new state, the selection, and what settles it (R33 to R35). -/
theorem badMark_eq (s : State) (x : Source) :
    s.badMark x = settledFrom s ((s.setSource x ((s.source x).badMark s.time.config.nDisq)).evalSelection false) := rfl

theorem settledFrom_refs (s t : State) : (settledFrom s t).refs = t.refs := by
  unfold settledFrom
  split <;> simp

/-- Settling writes the class alone of the time base. -/
theorem settledFrom_time (s t : State) : ∃ q, (settledFrom s t).time = { t.time with quality := q } := by
  unfold settledFrom
  split
  · exact ⟨t.time.quality, rfl⟩
  · exact ⟨_, settleQuality_time t⟩

theorem settledFrom_grows (s t : State) : recordGrows t (settledFrom s t) := by
  unfold settledFrom
  split
  · exact recordGrows_of_eq rfl
  · exact settleQuality_grows t

theorem settledFrom_sameBut (s t : State) :
    sameBut t (settledFrom s t) [.time, .record, .alarms, .elements, .checker] := by
  unfold settledFrom
  split
  · exact sameBut_refl t _
  · exact settleQuality_sameBut t

/-- A selected source gives way with its SOURCE CHANGE entry of reason LOST (R34, R38). -/
theorem select_lost {s : State} {x y : Source} (h : s.refs.selected = some x) (u : State) :
    (settledFrom u (s.select y .lost)).refs.selected = some y
      ∧ (settledFrom u (s.select y .lost)).time.stepCount = 0
      ∧ recordGrows (s.raise
          { kind := .sourceChange, target := .time, capture := s.capture,
            body := .timeSourceChange (some x) (some y) .lost }) (settledFrom u (s.select y .lost)) := by
  obtain ⟨q, hq⟩ := settledFrom_time u (s.select y .lost)
  refine ⟨by simp [settledFrom_refs, select_refs], by simp [hq, select_time], ?_⟩
  have ends : ∀ t : TimeBase, t.endHoldover.centre = t.centre ∧ t.endHoldover.elapsed = t.elapsed
      ∧ t.endHoldover.epoch = t.epoch ∧ t.endHoldover.quality = t.quality := by
    intro t
    unfold TimeBase.endHoldover
    split <;> simp
  have agree : sameForRecord s { s with
      time := { s.time.endHoldover with stepCount := 0 }, refs := { s.refs with selected := some y } } := by
    simp [sameForRecord, ends s.time]
  refine recordGrows_raise_congr agree _ ?_
  have hc : s.capture = State.capture { s with
      time := { s.time.endHoldover with stepCount := 0 }, refs := { s.refs with selected := some y } } :=
    (capture_congr agree).symm
  rw [hc, ← h]
  exact settledFrom_grows u (s.select y .lost)

/-- A selection lost while time is set leaves HOLDOVER with its entry (R17, R34). -/
theorem loseSelection_set {s : State} (x : Source) (h : s.time.timeSet = true) (u : State) :
    (settledFrom u (s.loseSelection x)).time.mode = .holdover
      ∧ (settledFrom u (s.loseSelection x)).time.c = s.time.i
      ∧ recordGrows (s.raise
          { kind := .holdover, target := .time, capture := s.capture, body := .timeHoldover x s.time.u s.time.i })
          (settledFrom u (s.loseSelection x)) := by
  obtain ⟨q, hq⟩ := settledFrom_time u (s.loseSelection x)
  have hg := settledFrom_grows u (s.loseSelection x)
  simp only [State.loseSelection, h, if_true, State.enterHoldover] at hq hg ⊢
  refine ⟨by simp [hq], by simp [hq], ?_⟩
  exact recordGrows_raise_congr (by simp [sameForRecord]) _ hg

/-- A selection lost while time is unset leaves a SOURCE CHANGE entry to none (R34, R38). -/
theorem loseSelection_unset {s : State} (x : Source) (h : s.time.timeSet = false) (u : State) :
    recordGrows (s.raise
        { kind := .sourceChange, target := .time, capture := s.capture,
          body := .timeSourceChange (some x) none .lost }) (settledFrom u (s.loseSelection x)) := by
  refine recordGrows_raise_congr (t := { s with
      time := { s.time with stepCount := 0 }, refs := { s.refs with selected := none } }) (by simp [sameForRecord]) _ ?_
  have hg := settledFrom_grows u (s.loseSelection x)
  simp only [State.loseSelection, h] at hg ⊢
  exact hg

/-- The selected source that ceases to be QUALIFIED moves the selection as R34 and R38 say. -/
theorem settled_evalSelection_lostTo {s : State} {x : Source} (h : s.refs.selected = some x)
    (hq : (s.source x).state ≠ .qualified) (u : State) : s.lostTo x (settledFrom u (s.evalSelection false)) := by
  constructor
  · intro hn
    rw [evalSelection_loses h hq hn]
    refine ⟨by simp [settledFrom_refs, loseSelection_refs], fun ht => ?_, fun ht => ?_⟩
    · exact loseSelection_set x ht u
    · exact loseSelection_unset x ht u
  · intro y hy
    rw [evalSelection_gives_way h hq hy]
    exact select_lost h u

/-- Where a selection goes depends on the time base, the other sources and what a raise reads alone. -/
theorem lostTo_congr {s u t : State} {x : Source} (agree : sameForRecord s u) (ht : u.time = s.time)
    (hs : ∀ z, z ≠ x → u.source z = s.source z) (h : u.lostTo x t) : s.lostTo x t := by
  obtain ⟨hnone, hnext⟩ := h
  rw [capture_congr agree] at hnone hnext
  rw [ht] at hnone
  constructor
  · intro hn
    obtain ⟨hsel, hset, hunset⟩ := hnone fun z hz => by rw [hs z hz]; exact hn z hz
    refine ⟨hsel, fun h1 => ?_, fun h0 => recordGrows_raise_congr agree _ (hunset h0)⟩
    obtain ⟨hm, hc, hg⟩ := hset h1
    exact ⟨hm, hc, recordGrows_raise_congr agree _ hg⟩
  · rintro y ⟨hne, hy, hbest⟩
    have hy' : u.nextBest x y := by
      refine ⟨hne, by rwa [hs y hne], fun z hz hzy hzq => ?_⟩
      rw [ht]
      exact hbest z hz hzy (by rwa [← hs z hz])
    obtain ⟨hsel, hcount, hg⟩ := hnext y hy'
    exact ⟨hsel, hcount, recordGrows_raise_congr agree _ hg⟩

/-! ## The accepted mark leaves the reference selector (R8) -/

/-- Agreement that each step of a fold keeps is kept by the whole fold. -/
theorem foldl_sameBut {α : Type} {f : State → α → State} {b : List Block} (h : ∀ s a, sameBut s (f s a) b)
    (l : List α) (s : State) : sameBut s (l.foldl f s) b := by
  induction l generalizing s with
  | nil => exact sameBut_refl s b
  | cons a l ih => exact sameBut_trans (h s a) (ih _)

theorem takeOffset_sameBut (s : State) : sameBut s s.takeOffset [.time, .record] := by
  intro b hb
  cases b <;> simp_all [Block.same]

theorem takeDrainEnd_sameBut (s : State) : sameBut s s.takeDrainEnd [.record, .alarms, .elements, .checker] := by
  intro b hb
  cases b <;> simp_all [Block.same]

theorem takeChangeover_sameBut (s : State) : sameBut s s.takeChangeover [.record, .alarms, .elements, .checker] := by
  intro b hb
  cases b <;> simp_all [Block.same]

/-- The blocks that an accepted mark may write. -/
def markBlocks : List Block := [.time, .record, .alarms, .elements, .checker, .choices]

theorem takeInstant_sameBut (s : State) (o : InstantOwner) : sameBut s (s.takeInstant o) markBlocks := by
  cases o with
  | offset => exact sameBut_mono (takeOffset_sameBut s) (by decide)
  | period =>
    exact sameBut_mono (sameBut_trans (takeChangeover_sameBut s) (takeDrainEnd_sameBut _)) (by decide)
  | expiry => exact sameBut_mono (expireDue_sameBut s) (by decide)

theorem takePassed_sameBut (s : State) : sameBut s s.takePassed markBlocks := by
  refine sameBut_trans (t := { s with choices := s.choices + _ }) ?_ (foldl_sameBut takeInstant_sameBut _ _)
  intro b hb
  cases b <;> simp_all [Block.same, markBlocks]

theorem moveCentre_sameBut (s : State) (e : Int) : sameBut s (s.moveCentre e) [.time, .choices] := by
  unfold State.moveCentre
  dsimp only
  intro b hb
  split
  · cases b <;> simp_all [Block.same]
  · split <;> cases b <;> simp_all [Block.same]

/-- Writing the time base alone. -/
theorem setTime_sameBut (s : State) (t : TimeBase) : sameBut s { s with time := t } [.time] := by
  intro b hb
  cases b <;> simp_all [Block.same]

theorem firstSet_sameBut (s : State) (m : AcceptedMark) : sameBut s (s.firstSet m) markBlocks := by
  have hmove := sameBut_mono (moveCentre_sameBut s m.eFull) (m := markBlocks) (by decide)
  intro b hb
  have := hmove b hb
  cases b <;> simp_all [Block.same, State.firstSet, markBlocks]

theorem step_sameBut (s : State) (m : AcceptedMark) : sameBut s (s.step_ m) markBlocks := by
  have hmove := sameBut_mono (moveCentre_sameBut s.gapRule m.eFull) (m := markBlocks) (by decide)
  intro b hb
  have := hmove b hb
  cases b <;> simp_all [Block.same, State.step_, markBlocks]

/-- In FINE and SLEW an accepted mark steps or disciplines the time base (R8, R11). -/
theorem markStages_disciplined {s : State} (h : s.time.mode = .fine ∨ s.time.mode = .slew) (m : AcceptedMark) :
    s.markStages m =
      if s.countAfter m = 3 then
        if s.stepPermitted then (s.step_ m, true)
        else ({ s with time := s.time.discipline m true (s.countAfter m) }, false)
      else ({ s with time := s.time.discipline m false (s.countAfter m) }, false) := by
  obtain h | h := h <;> simp only [State.markStages, h]

/-- Before the quality evaluation an accepted mark sets centre time, steps it, or moves the time base alone (R8). -/
theorem markStages_cases (s : State) (m : AcceptedMark) :
    (s.markStages m).1 = s.firstSet m ∨ (s.markStages m).1 = s.step_ m
      ∨ ∃ t, (s.markStages m).1 = { s with time := t } := by
  have disciplined (h : s.time.mode = .fine ∨ s.time.mode = .slew) : (s.markStages m).1 = s.step_ m
      ∨ ∃ t, (s.markStages m).1 = { s with time := t } := by
    rw [markStages_disciplined h]
    by_cases hn : s.countAfter m = 3
    · by_cases hp : s.stepPermitted = true
      · exact .inl (by rw [if_pos hn, if_pos hp])
      · exact .inr ⟨s.time.discipline m true (s.countAfter m), by rw [if_pos hn, if_neg hp]⟩
    · exact .inr ⟨s.time.discipline m false (s.countAfter m), by rw [if_neg hn]⟩
  cases h : s.time.mode with
  | free => exact .inl (by simp only [State.markStages, h])
  | holdover => exact .inr (.inr ⟨s.time, by simp only [State.markStages, h]⟩)
  | fine => exact .inr (disciplined (.inl h))
  | slew => exact .inr (disciplined (.inr h))

theorem markStages_sameBut (s : State) (m : AcceptedMark) : sameBut s (s.markStages m).1 markBlocks := by
  obtain h | h | ⟨t, h⟩ := markStages_cases s m <;> rw [h]
  · exact firstSet_sameBut s m
  · exact step_sameBut s m
  · exact sameBut_mono (setTime_sameBut s t) (by decide)

/-- An accepted mark leaves the reference selector, the ports, the lines and the responder. -/
theorem acceptedMark_sameBut (s : State) (m : AcceptedMark) : sameBut s (s.acceptedMark m) markBlocks := by
  have quality : sameBut s (s.markStages m).1.evalQuality markBlocks :=
    sameBut_trans (markStages_sameBut s m) (sameBut_mono (evalQuality_sameBut _) (by decide))
  unfold State.acceptedMark
  dsimp only
  split
  · exact sameBut_trans quality (takePassed_sameBut _)
  · split
    · exact sameBut_trans quality (sameBut_mono (expireDue_sameBut _) (by decide))
    · exact quality

/-! ## Good and bad marks (R33 to R37) -/

/-- The state of a mark's source after the mark, a good one (R33; RING keeps no previous good mark). -/
def sourceAfterGood (s : State) (m : AcceptedMark) : SourceState :=
  let x := (s.source m.source).goodMark s.time.config.nQual s.time.elapsed
  if m.source = .ring then x else { x with previousGood := some m.announced }

/-- The whole state with its source moved by a good mark, the selection not yet evaluated. -/
def countedGood (s : State) (m : AcceptedMark) : State := s.setSource m.source (sourceAfterGood s m)

/-- A good mark is its source's new state, the selection, and then the accepted mark or what settles the selection
(R37). -/
theorem goodMark_eq (s : State) (m : AcceptedMark) :
    s.goodMark m = if ((countedGood s m).evalSelection false).refs.selected = some m.source then
        ((countedGood s m).evalSelection false).acceptedMark m
      else settledFrom s ((countedGood s m).evalSelection false) := rfl

theorem source_countedGood_ne {s : State} {m : AcceptedMark} {x : Source} (h : x ≠ m.source) :
    (countedGood s m).source x = s.source x := source_setSource_ne s _ h

/-- A good mark of the selected source goes to the time base (R37). -/
theorem goodMark_of_selected {s : State} {m : AcceptedMark} (h : s.refs.selected = some m.source)
    (hq : (sourceAfterGood s m).state = .qualified) (hn : (countedGood s m).revertsNone m.source) :
    s.goodMark m = (countedGood s m).acceptedMark m := by
  have hs : (countedGood s m).refs.selected = some m.source := by simp [countedGood, h]
  rw [goodMark_eq, evalSelection_stays hs (by simpa [countedGood] using hq) hn, if_pos hs]

/-- A good mark that leaves its source the only QUALIFIED one selects it, where none was selected (R35, R37). -/
theorem goodMark_of_qualifies {s : State} {m : AcceptedMark} (h : s.refs.selected = none)
    (hq : (sourceAfterGood s m).state = .qualified) (hn : (countedGood s m).othersUnqualified m.source) :
    s.goodMark m = ((countedGood s m).select m.source .qualified).acceptedMark m := by
  have hs : (countedGood s m).refs.selected = none := by simp [countedGood, h]
  rw [goodMark_eq, evalSelection_selects hs (by simpa [countedGood] using hq) hn, if_pos (by simp [select_refs])]

/-- A good mark of a source that is not selected goes no further, while no revert instant is reached (R37). -/
theorem goodMark_of_other {s : State} {m : AcceptedMark} {z : Source} (h : s.refs.selected = some z)
    (hz : z ≠ m.source) (hq : (s.source z).state = .qualified) (hn : (countedGood s m).revertsNone z) :
    s.goodMark m = countedGood s m := by
  have hs : (countedGood s m).refs.selected = some z := by simp [countedGood, h]
  rw [goodMark_eq, evalSelection_stays hs (by rwa [source_countedGood_ne hz]) hn, if_neg (by simp [hs, hz]),
    settledFrom, if_pos (by rw [hs, h])]

/-- A good mark of the only source at its revert instant reverts to it first (R36, R37; log 53). -/
theorem goodMark_of_revert {s : State} {m : AcceptedMark} {z : Source} {k : Nat} (h : s.refs.selected = some z)
    (hz : z ≠ m.source) (hq : (s.source z).state = .qualified) (hy : (sourceAfterGood s m).state = .qualified)
    (hk : (sourceAfterGood s m).qualifiedSince = some k)
    (hle : k + s.time.config.revertHold * 1000000 ≤ s.time.elapsed) (hp : s.priority m.source < s.priority z)
    (hn : ∀ o j, o ≠ m.source → (s.source o).state = .qualified → s.priority o < s.priority z →
      (s.source o).qualifiedSince = some j → s.time.elapsed < j + s.time.config.revertHold * 1000000) :
    s.goodMark m = ((countedGood s m).select m.source .revert).acceptedMark m := by
  have hs : (countedGood s m).refs.selected = some z := by simp [countedGood, h]
  have ht : (countedGood s m).time = s.time := by simp [countedGood]
  have hprio : ∀ o, (countedGood s m).priority o = s.priority o := fun o => by simp [State.priority, ht]
  have reverts : (countedGood s m).mayRevert m.source = true := by
    rw [mayRevert_iff hs, hprio, hprio, ht]
    exact ⟨by simpa [countedGood] using hy, hp, k, by simpa [countedGood] using hk, hle⟩
  have alone : ∀ o, o ≠ m.source → (countedGood s m).mayRevert o = false := by
    intro o ho
    rw [Bool.eq_false_iff, ne_eq, mayRevert_iff hs, hprio, hprio, ht, source_countedGood_ne ho]
    rintro ⟨hoq, hop, j, hj, hjle⟩
    exact absurd (hn o j ho hoq hop hj) (Nat.not_lt.mpr hjle)
  rw [goodMark_eq, evalSelection_reverts hs (by rwa [source_countedGood_ne hz]) reverts alone,
    if_pos (by simp [select_refs])]

/-- A good mark leaves every source but its own, and every wired line. -/
theorem goodMark_sameSources (s : State) (m : AcceptedMark) : sameSources (countedGood s m) (s.goodMark m) := by
  have hsel := evalSelection_sameSources (countedGood s m) false
  rw [goodMark_eq]
  split
  · exact sameSources_trans hsel (sameSources_of_refs_eq (acceptedMark_sameBut _ m .refs (by decide)))
  · exact sameSources_trans hsel (sameSources_of_refs_eq (settledFrom_refs _ _))

theorem source_goodMark_same (s : State) (m : AcceptedMark) : (s.goodMark m).source m.source = sourceAfterGood s m := by
  rw [source_of_sameSources (goodMark_sameSources s m)]
  exact source_setSource_same s _ _

theorem source_goodMark_ne (s : State) {m : AcceptedMark} {x : Source} (h : x ≠ m.source) :
    (s.goodMark m).source x = s.source x := by
  rw [source_of_sameSources (goodMark_sameSources s m), source_countedGood_ne h]

theorem wired_goodMark (s : State) (m : AcceptedMark) (w : Wired) : (s.goodMark m).wired w = s.wired w := by
  rw [wired_of_sameSources (goodMark_sameSources s m)]
  exact wired_setSource s _ _ w

theorem goodMark_sameBut (s : State) (m : AcceptedMark) : sameBut s (s.goodMark m) (.refs :: markBlocks) := by
  have hsel : sameBut s ((countedGood s m).evalSelection false) (.refs :: markBlocks) :=
    sameBut_trans (sameBut_mono (setSource_sameBut s _ _) (by decide))
      (sameBut_mono (evalSelection_sameBut _ false) (by decide))
  rw [goodMark_eq]
  split
  · exact sameBut_trans hsel (sameBut_mono (acceptedMark_sameBut _ m) (by decide))
  · exact sameBut_trans hsel (sameBut_mono (settledFrom_sameBut _ _) (by decide))

/-- A bad mark leaves every source but its own, and every wired line. -/
theorem badMark_sameSources (s : State) (x : Source) :
    sameSources (s.setSource x ((s.source x).badMark s.time.config.nDisq)) (s.badMark x) := by
  rw [badMark_eq]
  exact sameSources_trans (evalSelection_sameSources _ false) (sameSources_of_refs_eq (settledFrom_refs _ _))

theorem source_badMark_same (s : State) (x : Source) :
    (s.badMark x).source x = (s.source x).badMark s.time.config.nDisq := by
  rw [source_of_sameSources (badMark_sameSources s x), source_setSource_same]

theorem source_badMark_ne (s : State) {x y : Source} (h : y ≠ x) : (s.badMark x).source y = s.source y := by
  rw [source_of_sameSources (badMark_sameSources s x), source_setSource_ne s _ h]

theorem wired_badMark (s : State) (x : Source) (w : Wired) : (s.badMark x).wired w = s.wired w := by
  rw [wired_of_sameSources (badMark_sameSources s x), wired_setSource]

theorem badMark_sameBut (s : State) (x : Source) :
    sameBut s (s.badMark x) [.time, .refs, .record, .alarms, .elements, .checker] := by
  rw [badMark_eq]
  exact sameBut_trans (sameBut_mono (setSource_sameBut s _ _) (by decide))
    (sameBut_trans (sameBut_mono (evalSelection_sameBut _ false) (by decide))
      (sameBut_mono (settledFrom_sameBut _ _) (by decide)))

/-- A bad mark that disqualifies the selected source moves the selection (R34, R38). -/
theorem badMark_lostTo {s : State} {x : Source} (h : s.refs.selected = some x)
    (hq : ((s.source x).badMark s.time.config.nDisq).state ≠ .qualified) : s.lostTo x (s.badMark x) := by
  rw [badMark_eq]
  refine lostTo_congr (setSource_sameForRecord s x ((s.source x).badMark s.time.config.nDisq)) (by simp)
    (fun z hz => source_setSource_ne s _ hz) ?_
  exact settled_evalSelection_lostTo (by simpa using h) (by simpa using hq) s

/-- A bad mark that brings the bad count to its limit disqualifies a QUALIFIED source (R33). -/
theorem sourceBadMark_disqualifies {x : SourceState} {n : Nat} (hx : x.state = .qualified) (h : n ≤ x.bad + 1) :
    (x.badMark n).state = .disqualified := by
  simp [SourceState.badMark, hx, h]

/-! ## Judging a mark (R29, R30) -/

theorem continues_iff {x : SourceState} {a : Nat} :
    x.continues a = true ↔ x.good = 0 ∨ ∃ p, x.previousGood = some p ∧ p + 1000000000 = a := by
  simp [SourceState.continues]

/-- The four conditions of a good mark of width `width`, with the message noted at its leading edge (R30). -/
def goodBy (x : SourceState) (m : MarkInProgress) (width : Nat) (h : HeldMessage) (c : MessageContents) : Prop :=
  c.status = .ok ∧ 10000 ≤ m.capture.elapsed - h.arrived ∧ m.capture.elapsed - h.arrived ≤ 990000
    ∧ 5000 ≤ width ∧ width ≤ 500000
    ∧ (x.good = 0 ∨ ∃ p, x.previousGood = some p ∧ p + 1000000000 = c.announced)

theorem markGood_of_good {s : State} {x : Source} {m : MarkInProgress} {width : Nat} {h : HeldMessage}
    {c : MessageContents} (hm : m.message = some h) (hc : h.contents = some c)
    (hg : goodBy (s.source x) m width h c) : s.markGood x m width = some c.announced := by
  unfold goodBy at hg
  simp only [State.markGood, hm, hc, continues_iff]
  rw [if_pos hg]

theorem markGood_of_bad {s : State} {x : Source} {m : MarkInProgress} {width : Nat}
    (hb : ∀ h c, m.message = some h → h.contents = some c → ¬ goodBy (s.source x) m width h c) :
    s.markGood x m width = none := by
  cases hm : m.message with
  | none => simp [State.markGood, hm]
  | some h =>
    cases hc : h.contents with
    | none => simp [State.markGood, hm, hc]
    | some c =>
      have := hb h c hm hc
      unfold goodBy at this
      simp only [State.markGood, hm, hc, continues_iff]
      rw [if_neg this]

/-- The state with the mark in progress on a wired reference removed and its line at a level. -/
def markRemoved (s : State) (w : Wired) (level : Bool) : State :=
  s.setWired w { s.wired w with lineActive := level, mark := none }

/-- What a wired reference's good mark hands on (R37). -/
def wiredMark (s : State) (w : Wired) (m : MarkInProgress) (c : MessageContents) : AcceptedMark :=
  { capture := m.capture, announced := c.announced, delay := (s.time.config.source w.source).delay, source := w.source }

/-- A mark that is good is removed and handled as a good mark (R30, R37). -/
theorem judgeMark_of_good {s : State} {w : Wired} {m : MarkInProgress} {width : Nat} {h : HeldMessage}
    {c : MessageContents} (hm : m.message = some h) (hc : h.contents = some c)
    (hg : goodBy (s.source w.source) m width h c) :
    s.judgeMark w m width = (markRemoved s w (s.wired w).lineActive).goodMark (wiredMark s w m c) := by
  unfold State.judgeMark
  rw [markGood_of_good hm hc hg]
  rfl

/-- A mark that is not good is removed and handled as a bad mark (R30, R33). -/
theorem judgeMark_of_bad {s : State} {w : Wired} {m : MarkInProgress} {width : Nat}
    (hb : ∀ h c, m.message = some h → h.contents = some c → ¬ goodBy (s.source w.source) m width h c) :
    s.judgeMark w m width = (markRemoved s w (s.wired w).lineActive).badMark w.source := by
  unfold State.judgeMark
  rw [markGood_of_bad hb]
  rfl

/-- A trailing edge lets the line fall and judges the mark in progress with its width (R29). -/
theorem trailingEdge_of_mark {s : State} {w : Wired} {m : MarkInProgress} (hw : (s.wired w).mark = some m) :
    s.trailingEdge w = (s.setWired w { s.wired w with lineActive := false }).judgeMark w m
      (s.time.elapsed - m.capture.elapsed) := by
  unfold State.trailingEdge
  rw [hw]

/-- A wired reference's good mark is counted and its announced time kept (R30, R33). -/
theorem sourceAfterGood_wiredMark (s : State) (w : Wired) (m : MarkInProgress) (c : MessageContents) (level : Bool) :
    sourceAfterGood (markRemoved s w level) (wiredMark s w m c) =
      { (s.source w.source).goodMark s.time.config.nQual s.time.elapsed with previousGood := some c.announced } := by
  cases w <;> simp [sourceAfterGood, markRemoved, wiredMark, Wired.source]

/-- A bad mark on a state without its mark in progress loses the selection as it would on the state with it. -/
theorem badMark_markRemoved_lostTo {s : State} {w : Wired} (level : Bool) (h : s.refs.selected = some w.source)
    (hq : ((s.source w.source).badMark s.time.config.nDisq).state ≠ .qualified) :
    s.lostTo w.source ((markRemoved s w level).badMark w.source) :=
  lostTo_congr (setWired_sameForRecord s w { s.wired w with lineActive := level, mark := none }) (by simp)
    (fun z _ => source_setWired s w _ z)
    (badMark_lostTo (by simpa [markRemoved] using h) (by simpa [markRemoved] using hq))

/-- What a bad mark leaves of the lines and the sources, its mark in progress removed. -/
theorem badMark_markRemoved_frame (s : State) (w : Wired) (level : Bool) :
    (((markRemoved s w level).badMark w.source).wired w).mark = none
      ∧ (((markRemoved s w level).badMark w.source).wired w).lineActive = level
      ∧ ((markRemoved s w level).badMark w.source).source w.source
          = (s.source w.source).badMark s.time.config.nDisq
      ∧ (∀ y, y ≠ w.source → ((markRemoved s w level).badMark w.source).source y = s.source y)
      ∧ sameBut s ((markRemoved s w level).badMark w.source)
          [.time, .refs, .record, .alarms, .elements, .checker] := by
  refine ⟨by simp [wired_badMark, markRemoved], by simp [wired_badMark, markRemoved], ?_, fun y hy => ?_, ?_⟩
  · rw [source_badMark_same]
    simp [markRemoved]
  · rw [source_badMark_ne _ hy]
    simp [markRemoved]
  · exact sameBut_trans (sameBut_mono (setWired_sameBut s w _) (by decide)) (badMark_sameBut _ _)

/-- A trailing edge on a mark that is good (R29, R30). -/
theorem trailingEdge_of_good {s : State} {w : Wired} {m : MarkInProgress} {h : HeldMessage} {c : MessageContents}
    (hw : (s.wired w).mark = some m) (hm : m.message = some h) (hc : h.contents = some c)
    (hg : goodBy (s.source w.source) m (s.time.elapsed - m.capture.elapsed) h c) :
    s.trailingEdge w = (markRemoved s w false).goodMark (wiredMark s w m c) := by
  rw [trailingEdge_of_mark hw, judgeMark_of_good hm hc (by simpa using hg)]
  simp [markRemoved, wiredMark]

/-- A trailing edge on a mark that is not good (R29, R30). -/
theorem trailingEdge_of_bad {s : State} {w : Wired} {m : MarkInProgress} (hw : (s.wired w).mark = some m)
    (hb : ∀ h c, m.message = some h → h.contents = some c →
      ¬ goodBy (s.source w.source) m (s.time.elapsed - m.capture.elapsed) h c) :
    s.trailingEdge w = (markRemoved s w false).badMark w.source := by
  rw [trailingEdge_of_mark hw, judgeMark_of_bad (by simpa using hb)]
  simp [markRemoved]

/-- A mark at its width limit is not good (R29, R30). -/
theorem widthLimit_of_passed {s : State} {w : Wired} {m : MarkInProgress} (hw : (s.wired w).mark = some m)
    (hl : m.capture.elapsed + 500000 < s.time.elapsed) :
    s.widthLimit w = (markRemoved s w (s.wired w).lineActive).badMark w.source := by
  unfold State.widthLimit
  rw [hw]
  simp only [hl, if_true]
  exact judgeMark_of_bad (by simp [goodBy])

/-! ## Leading edges (R29, R31) -/

/-- A rising mark line of an enabled source: the mark begins with the capture and the message then held (R29). -/
def markBegun (s : State) (w : Wired) : State :=
  s.setWired w
    { s.wired w with lineActive := true, mark := some { capture := s.capture, message := (s.wired w).message } }

theorem leadingEdge_of_disabled {s : State} {w : Wired} (hl : (s.wired w).lineActive = false)
    (he : s.enabled w.source = false) : s.leadingEdge w = s.setWired w { s.wired w with lineActive := true } := by
  simp [State.leadingEdge, hl, he]

/-- The mark deadline of a source that is not ABSENT is set 1.5 s on (R31). -/
theorem leadingEdge_of_enabled {s : State} {w : Wired} (hl : (s.wired w).lineActive = false)
    (he : s.enabled w.source = true) :
    s.leadingEdge w =
      if (s.source w.source).state = .absent then markBegun s w
      else (markBegun s w).setSource w.source
        { s.source w.source with markDeadline := some (s.time.elapsed + 1500000) } := by
  simp [State.leadingEdge, hl, he, markBegun, State.capture]

/-! ## Reference messages (R27, R28, R194) -/

/-- The single octet at a place, as a number and as itself. -/
theorem number_place_iff {o : List Byte} {i : Nat} (h : i < o.length) (b : Byte) :
    number ((o.drop i).take 1) = b.toNat ↔ o[i]? = some b := by
  rw [List.drop_eq_getElem_cons h, List.getElem?_eq_getElem h]
  simp only [List.take_succ_cons, List.take_zero, number, List.foldl_cons, List.foldl_nil, Nat.zero_mul, Nat.zero_add,
    Option.some.injEq, BitVec.toNat_inj]

/-- A status code is 1, 2 or 3 (R194). -/
theorem messageStatusOf_eq_none {n : Nat} (h1 : n ≠ 1) (h2 : n ≠ 2) (h3 : n ≠ 3) : messageStatusOf n = none := by
  unfold messageStatusOf
  split <;> simp_all

/-- The end octet, the check and the second of a message that is valid but perhaps for its status (R27, R194). -/
def wellFormedMessage (o : List Byte) : Prop :=
  number ((o.drop 11).take 1) = 0x5A ∧ number ((o.drop 9).take 2) = (crc16 ((o.drop 1).take 8)).toNat
    ∧ number ((o.drop 3).take 3) ≤ 86399

theorem wellFormedMessage_iff {o : List Byte} (h : o.length = 12) :
    wellFormedMessage o ↔ o[11]? = some 0x5A ∧ number ((o.drop 9).take 2) = (crc16 ((o.drop 1).take 8)).toNat
      ∧ number ((o.drop 3).take 3) ≤ 86399 :=
  and_congr_left' (number_place_iff (by omega) 0x5A)

theorem messageContents_of_wellFormed {o : List Byte} {k : MessageStatus} (h : wellFormedMessage o)
    (hk : messageStatusOf (number ((o.drop 6).take 1)) = some k) :
    messageContents o = some { day := number ((o.drop 1).take 2), second := number ((o.drop 3).take 3), status := k,
                               counter := number ((o.drop 7).take 1) } := by
  unfold messageContents
  rw [hk]
  exact if_pos h

theorem messageContents_of_illFormed {o : List Byte} (h : ¬ wellFormedMessage o) : messageContents o = none := by
  unfold messageContents
  dsimp only
  split
  · exact if_neg h
  · rfl

theorem messageContents_of_noStatus {o : List Byte} (h : messageStatusOf (number ((o.drop 6).take 1)) = none) :
    messageContents o = none := by
  unfold messageContents
  rw [h]

/-- A complete message is held with its arrival, and the receiver hunts again (R27). -/
theorem wired_completeMessage (s : State) (w : Wired) (o : List Byte) :
    (s.completeMessage w o).wired w =
      { s.wired w with
        message := some { arrived := s.time.elapsed, contents := messageContents o }
        collected := []
        octetEnd := s.time.elapsed } := by
  unfold State.completeMessage State.renewAbsence
  dsimp only
  split <;> simp

theorem wired_completeMessage_ne (s : State) {w z : Wired} (o : List Byte) (h : z ≠ w) :
    (s.completeMessage w o).wired z = s.wired z := by
  unfold State.completeMessage State.renewAbsence
  dsimp only
  split <;> simp [wired_setWired_ne _ _ h]

/-- A valid message renews the absence deadline of its source (R28). -/
theorem source_completeMessage (s : State) (w : Wired) (o : List Byte) :
    (s.completeMessage w o).source w.source =
      if (messageContents o).isSome then
        { s.source w.source with absenceDeadline := some (s.time.elapsed + 3000000) }
      else s.source w.source := by
  unfold State.completeMessage State.renewAbsence
  dsimp only
  split <;> simp

theorem source_completeMessage_ne (s : State) {w : Wired} {x : Source} (o : List Byte) (h : x ≠ w.source) :
    (s.completeMessage w o).source x = s.source x := by
  unfold State.completeMessage State.renewAbsence
  dsimp only
  split <;> simp [source_setSource_ne _ _ h]

theorem completeMessage_sameBut (s : State) (w : Wired) (o : List Byte) :
    sameBut s (s.completeMessage w o) [.refs] := by
  unfold State.completeMessage State.renewAbsence
  dsimp only
  split
  · exact sameBut_trans (setWired_sameBut _ _ _) (setSource_sameBut _ _ _)
  · exact setWired_sameBut _ _ _

theorem referenceMessage_of_disabled {s : State} {w : Wired} (h : s.enabled w.source = false) (o : List Byte) :
    s.referenceMessage w o = s := by
  simp [State.referenceMessage, h]

theorem referenceMessage_of_whole {s : State} {w : Wired} {o : List Byte} (h : s.enabled w.source = true)
    (hl : o.length = 12) (ho : o.head? = some 0xA5) : s.referenceMessage w o = s.completeMessage w o :=
  if_pos ⟨h, hl, ho⟩

/-- When an octet comes late (R27; log 21). -/
theorem octetLate_iff {s : State} {w : Wired} :
    s.octetLate w = true ↔ (s.wired w).octetEnd + 5000 + 1041 < s.time.elapsed := by
  unfold State.octetLate Config.octetMicros
  exact decide_eq_true_iff

theorem messageOctet_of_disabled {s : State} {w : Wired} (h : s.enabled w.source = false) (b : Byte) :
    s.messageOctet w b = s := by
  simp [State.messageOctet, h]

/-- The octets that stand collected when an octet comes: none when it comes late (R27). -/
def heldOctets (s : State) (w : Wired) : List Byte := if s.octetLate w then [] else (s.wired w).collected

theorem heldOctets_of_idle {s : State} {w : Wired} (h : (s.wired w).collected = []) : heldOctets s w = [] := by
  simp [heldOctets, h]

theorem heldOctets_of_late {s : State} {w : Wired} (h : (s.wired w).octetEnd + 5000 + 1041 < s.time.elapsed) :
    heldOctets s w = [] :=
  if_pos (octetLate_iff.mpr h)

theorem heldOctets_of_timely {s : State} {w : Wired} (h : ¬ (s.wired w).octetEnd + 5000 + 1041 < s.time.elapsed) :
    heldOctets s w = (s.wired w).collected :=
  if_neg (mt octetLate_iff.mp h)

/-- A hunting receiver begins a message at the start octet alone (R27). -/
theorem messageOctet_of_hunting {s : State} {w : Wired} (h : s.enabled w.source = true) (hh : heldOctets s w = [])
    (b : Byte) :
    s.messageOctet w b =
      if b = 0xA5 then s.setWired w { s.wired w with collected := [b], octetEnd := s.time.elapsed }
      else s.setWired w { s.wired w with collected := [] } := by
  unfold heldOctets at hh
  change _ = if b = startOctet then _ else _
  simp only [State.messageOctet, h, hh]
  by_cases hb : b = startOctet <;> simp [hb]

/-- A receiver that holds octets takes every octet, and the twelfth completes the message (R27). -/
theorem messageOctet_of_collecting {s : State} {w : Wired} (h : s.enabled w.source = true) (hh : heldOctets s w ≠ [])
    (b : Byte) :
    s.messageOctet w b =
      if (heldOctets s w).length = 11 then s.completeMessage w (heldOctets s w ++ [b])
      else s.setWired w { s.wired w with collected := heldOctets s w ++ [b], octetEnd := s.time.elapsed } := by
  unfold heldOctets at hh ⊢
  simp [State.messageOctet, h, hh]

/-- The receiver drops a partial message more than 5 ms after its last octet (R27). -/
theorem octetTimeout_of_passed {s : State} {w : Wired} (hc : (s.wired w).collected ≠ [])
    (h : (s.wired w).octetEnd + 5000 < s.time.elapsed) : s.octetTimeout w = s.dropPartial w :=
  if_pos ⟨hc, h⟩

/-! ## Parsing a telegram (R41, R44, R45, R76) -/

theorem setPort_sameBut (s : State) (p : PortId) (x : Port) : sameBut s (s.setPort p x) [.portA, .portB] := by
  intro b hb
  cases b <;> simp_all [Block.same]

/-- A frame is written back to its port alone. -/
theorem setFrame_eq (s : State) (p : PortId) (f : Frame) :
    s.setFrame p f = s.setPort p { s.port p with frame := some f } := rfl

/-- The parse limits, for a frame between telegrams (R44). -/
theorem mayParse_iff {f : Frame} (h : f.telegram = none) (o : List Byte) :
    f.mayParse o = true ↔ field f.received 12 2 = 0x9A42 ∧ f.parsed < field f.received 16 1 ∧ f.parsed < 64
      ∧ 6 ≤ o.length := by
  change _ ↔ _ ∧ f.parsed < f.count ∧ _
  simp [Frame.mayParse, Frame.isRing, h, and_assoc]

/-- Within the limits a telegram is opened by its class (R44, R45). -/
theorem telegramParse_of_mayParse {s : State} {p : PortId} {f : Frame} {o : List Byte} (hf : (s.port p).frame = some f)
    (h : f.mayParse o = true) : s.telegramParse p o = s.setFrame p (f.open_ (s.openTelegram f o)) := by
  simp [State.telegramParse, hf, h]

/-- Beyond the limits its octets join those of the frame, unread (R44). -/
theorem telegramParse_of_not_mayParse {s : State} {p : PortId} {f : Frame} {o : List Byte}
    (hf : (s.port p).frame = some f) (ht : f.telegram = none) (h : ¬ f.mayParse o = true) :
    s.telegramParse p o = s.setFrame p (f.pass o) := by
  simp [State.telegramParse, hf, h, Frame.flush, ht]

/-- The type code of an element telegram (R190). -/
def kindCode : TelegramKind → Nat
  | .command => 0x01
  | .status => 0x02

theorem isElementAddress_iff {a : Nat} : isElementAddress a = true ↔ 1 ≤ a ∧ a ≤ 0xEFFF := by
  simp [isElementAddress]

theorem classOf_element (k : TelegramKind) {a : Nat} (h : isElementAddress a = true) :
    classOf (kindCode k) a = .element k := by
  cases k <;> simp [classOf, kindCode, h]

theorem classOf_offTable (k : TelegramKind) {a : Nat} (h : isElementAddress a = false) :
    classOf (kindCode k) a = .other := by
  cases k <;> simp [classOf, kindCode, h]

theorem classOf_unknown {n : Nat} (a : Nat) (h1 : n ≠ 0x01) (h2 : n ≠ 0x02) (h3 : n ≠ 0x10) (h4 : n ≠ 0x20) :
    classOf n a = .other := by
  unfold classOf
  split <;> simp_all

theorem openTelegram_of_element {s : State} {o : List Byte} {k : TelegramKind}
    (h : classOf (field o 2 1) (field o 0 2) = .element k) (f : Frame) :
    s.openTelegram f o = f.passing o s.capture (elementContent k o) := by
  simp [State.openTelegram, h]

theorem openTelegram_of_time {s : State} {o : List Byte} (h : field o 2 1 = 0x10) (f : Frame) :
    s.openTelegram f o = s.timePass f o := by
  simp [State.openTelegram, h, classOf]

theorem openTelegram_of_other {s : State} {o : List Byte} (h : classOf (field o 2 1) (field o 0 2) = .other)
    (f : Frame) : s.openTelegram f o = f.passing o s.capture none := by
  simp [State.openTelegram, h]

/-- Every telegram is kept as received, in its place, with the capture of its arrival (R44, R76). -/
theorem openTelegram_received (s : State) (f : Frame) (o : List Byte) :
    (s.openTelegram f o).received = o ∧ (s.openTelegram f o).position = f.parsed + 1
      ∧ (s.openTelegram f o).capture = s.capture := by
  unfold State.openTelegram
  split
  · exact ⟨rfl, rfl, rfl⟩
  · unfold State.timePass
    dsimp only
    split <;> exact ⟨rfl, rfl, rfl⟩
  · unfold State.servicePass State.answerPass
    split
    · exact ⟨rfl, rfl, rfl⟩
    · split <;> exact ⟨rfl, rfl, rfl⟩
  · exact ⟨rfl, rfl, rfl⟩

theorem length_octets (n v : Nat) : (octets n v).length = n := by
  induction n with
  | zero => rfl
  | succ n ih => simp [octets, ih]

/-- A slot takes fourteen octets (R41, R190). -/
theorem length_slotOctets (s : State) : s.slotOctets.length = 14 := by
  simp [State.slotOctets, centreOctets, code, length_octets]

theorem fillsSlots_iff {s : State} : s.fillsSlots = true ↔ s.time.config.masterEnable = true ∧ s.time.timeSet = true
    ∧ (s.time.quality = .q1 ∨ s.time.quality = .q2) := by
  cases h : s.time.quality <;> simp [State.fillsSlots, h, Quality.rank]

/-- What a slot leaves does not depend on whether it is filled (R76). -/
theorem timePass_content (s : State) (f : Frame) {o : List Byte} (h : o.length = 6 + field o 4 2) :
    (s.timePass f o).content = some (.time (field o 0 2) (field o 3 1) (o.drop 6)) := by
  have hw : isWhole o = true := decide_eq_true h
  unfold State.timePass
  by_cases hfill : f.processed = true ∧ field o 4 2 = 14 ∧ s.fillsSlots = true
  · rw [if_pos hfill]
    exact if_pos hw
  · rw [if_neg hfill]
    exact if_pos hw

/-- A master fills the slot of a processed frame (R41). -/
theorem timePass_of_filled {s : State} {f : Frame} {o : List Byte}
    (h : f.processed = true ∧ field o 4 2 = 14 ∧ s.fillsSlots = true) :
    (s.timePass f o).inserted = true
      ∧ (s.timePass f o).sent = (o.take 6 ++ s.slotOctets ++ o.drop 20).take o.length := by
  unfold State.timePass
  rw [if_pos h]
  refine ⟨rfl, ?_⟩
  simp only [overlay, length_slotOctets]

/-- Else the slot passes as it arrived (R41). -/
theorem timePass_of_unfilled {s : State} {f : Frame} {o : List Byte}
    (h : ¬ (f.processed = true ∧ field o 4 2 = 14 ∧ s.fillsSlots = true)) :
    (s.timePass f o).inserted = false ∧ (s.timePass f o).sent = o := by
  unfold State.timePass
  rw [if_neg h]
  exact ⟨rfl, rfl⟩

end Sys2Proof.Laws
end

section
/-! The statements of the family of spec/02: reference messages, leading edges, marks, and the parse of a telegram. -/

namespace Sys2Proof.Proofs

open Sys2Proof Sys2Proof.Machine Sys2Proof.Laws

/-- Settles O15: the conditions of a valid message, then each row by what the receiver holds when it comes. -/
theorem referenceMessagesAreReceived : Obligations.ReferenceMessagesAreReceived := by
  refine ⟨fun o ho => ?_, fun s dt w o hr => ?_⟩
  · have place := number_place_iff (o := o) (i := 6) (by omega)
    have formed := wellFormedMessage_iff ho
    intro second right read
    have status : ∀ (b : Byte) (k : MessageStatus), messageStatusOf b.toNat = some k → right → o[6]? = some b →
        messageContents o = read k := by
      intro b k hk hright hb
      exact messageContents_of_wellFormed (formed.mpr hright) (by rw [(place b).mpr hb, hk])
    refine ⟨status 1 .ok rfl, status 2 .degraded rfl, status 3 .unlocked rfl, ?_⟩
    rintro (hill | ⟨h1, h2, h3⟩)
    · exact messageContents_of_illFormed fun h => hill (formed.mp h)
    · exact messageContents_of_noStatus (messageStatusOf_eq_none (fun h => h1 ((place 1).mp h))
        (fun h => h2 ((place 2).mp h)) (fun h => h3 ((place 3).mp h)))
  · intro late
    have config : ∀ b, (s.time.config.source w.source).enable = b → (s.advance dt).enabled w.source = b :=
      fun b h => by simpa [State.enabled] using h
    refine ⟨fun he => ?_, fun he hl ho => ⟨_, exec_referenceMessage hr dt w o, ?_⟩, fun he b => ?_⟩
    · have hd := config false he
      exact ⟨by rw [exec_referenceMessage hr, referenceMessage_of_disabled hd],
        fun b => by rw [exec_messageOctet hr, messageOctet_of_disabled hd]⟩
    · rw [referenceMessage_of_whole (config true he) hl ho, wired_completeMessage, source_completeMessage]
      refine ⟨rfl, rfl, by simp, by simp, by simp, fun x hx => ?_, fun z hz => ?_, completeMessage_sameBut _ w o⟩
      · rw [source_completeMessage_ne _ _ hx, source_advance]
      · rw [wired_completeMessage_ne _ _ hz, wired_advance]
    · have hunting : heldOctets (s.advance dt) w = [] →
          ∃ t, exec (.messageOctet dt w b) s = .next t ∧ (t.wired w).collected = (if b = 0xA5 then [b] else [])
            ∧ (t.wired w).message = (s.wired w).message ∧ sameBut (s.advance dt) t [.refs] := by
        intro hh
        refine ⟨_, exec_messageOctet hr dt w b, ?_⟩
        rw [messageOctet_of_hunting (config true he) hh]
        split <;> exact ⟨by simp, by simp, setWired_sameBut _ _ _⟩
      have held : ¬ late → heldOctets (s.advance dt) w = (s.wired w).collected := fun hl => by
        rw [heldOctets_of_timely (by simpa [late] using hl), wired_advance]
      refine ⟨fun hc => hunting (heldOctets_of_idle (by simpa using hc)),
        fun _ hl => hunting (heldOctets_of_late (by simpa [late] using hl)), fun hc hn hl => ?_, fun hn hl => ?_,
        fun hc ht => ?_, exec_messageFramingError hr dt w⟩
      · refine ⟨_, exec_messageOctet hr dt w b, ?_⟩
        rw [messageOctet_of_collecting (config true he) (by rwa [held hl]), held hl, if_neg hn.ne]
        exact ⟨by simp, by simp, setWired_sameBut _ _ _⟩
      · have hc : (s.wired w).collected ≠ [] := fun h => by simp [h] at hn
        refine ⟨_, exec_messageOctet hr dt w b, ?_⟩
        rw [messageOctet_of_collecting (config true he) (by rwa [held hl]), held hl, if_pos hn, wired_completeMessage]
        exact ⟨rfl, rfl, completeMessage_sameBut _ _ _⟩
      · rw [exec_messageOctetTimeout hr, octetTimeout_of_passed (by simpa using hc) (by simpa using ht)]
        simp [State.dropPartial]

/-- Settles O17, by the two cases of the source's enable and, of an enabled one, of its state. -/
theorem leadingEdgeBeginsMark : Obligations.LeadingEdgeBeginsMark := by
  intro s dt w hr hl
  have hl' : ((s.advance dt).wired w).lineActive = false := by simpa using hl
  refine ⟨fun he => ?_, fun he => ⟨_, exec_markLeadingEdge hr dt w, ?_⟩⟩
  · rw [exec_markLeadingEdge hr, leadingEdge_of_disabled hl' (by simpa [State.enabled] using he)]
    simp
  · rw [leadingEdge_of_enabled hl' (by simpa [State.enabled] using he)]
    have hbegun : sameBut (s.advance dt) (markBegun (s.advance dt) w) [.refs] := setWired_sameBut _ _ _
    have hother : ∀ z, z ≠ w → (markBegun (s.advance dt) w).wired z = s.wired z := fun z hz => by
      simp [markBegun, wired_setWired_ne _ _ hz]
    by_cases ha : (s.source w.source).state = .absent
    · rw [if_pos (by simpa using ha)]
      exact ⟨by simp [markBegun], by simp [markBegun, ha], by simp [markBegun], hother, by simp [markBegun],
        by simp [markBegun], hbegun⟩
    · rw [if_neg (by simpa using ha)]
      refine ⟨by simp [markBegun], by simp [ha], fun x hx => ?_, by simpa using hother, by simp [markBegun],
        by simp [markBegun], sameBut_trans hbegun (setSource_sameBut _ _ _)⟩
      rw [source_setSource_ne _ _ hx]
      simp [markBegun]

/-- Settles O18: the four cases of a good mark in the order of R37, and the loss of the selection by a bad one. -/
theorem markIsJudged : Obligations.MarkIsJudged := by
  intro s dt w m hr hm x now good afterGood afterBad after accepted taken lost
  have hw : ((s.advance dt).wired w).mark = some m := by simpa using hm
  have hgood : ∀ c, sourceAfterGood (markRemoved (s.advance dt) w false) (wiredMark (s.advance dt) w m c)
      = afterGood c := by
    intro c
    rw [sourceAfterGood_wiredMark]
    cases hx : (s.source w.source).state <;>
      simp [SourceState.goodMark, afterGood, x, now, hx, MessageContents.announced, Config.nsPerDay]
    split <;> rfl
  have hbad : x.badMark s.time.config.nDisq = afterBad := by
    cases hx : (s.source w.source).state <;> simp [SourceState.badMark, afterBad, x, hx]
    all_goals
      split
      · next h => simp [h]
      · next h => simp; omega
  have hcounted : ∀ c, countedGood (markRemoved (s.advance dt) w false) (wiredMark (s.advance dt) w m c)
      = after (afterGood c) := by
    intro c
    rw [countedGood, hgood]
    simp [markRemoved, wiredMark, after]
  have hlost : ∀ level, lost ((markRemoved (s.advance dt) w level).badMark w.source) := by
    intro level hsel hx hn
    have hq : (x.badMark s.time.config.nDisq).state ≠ .qualified := by simp [sourceBadMark_disqualifies hx hn]
    exact badMark_markRemoved_lostTo level hsel (by simpa using hq)
  have htaken : ∀ c, taken c ((markRemoved (s.advance dt) w false).goodMark (wiredMark (s.advance dt) w m c)) := by
    intro c
    have hmark : accepted c = wiredMark (s.advance dt) w m c := by
      simp [accepted, wiredMark, MessageContents.announced, Config.nsPerDay]
    have hsel : (markRemoved (s.advance dt) w false).refs.selected = s.refs.selected := by simp [markRemoved]
    have hsrc : ∀ z, (markRemoved (s.advance dt) w false).source z = s.source z := by simp [markRemoved]
    have htime : (markRemoved (s.advance dt) w false).time = (s.advance dt).time := by simp [markRemoved]
    dsimp only [taken]
    rw [← hcounted c, hmark, ← hgood c]
    refine ⟨fun h hx hn => ?_, fun h hq hn => ?_, fun z h hz hq => ⟨fun hn => ?_, fun k hy hk hle hp ho => ?_⟩⟩
    · refine goodMark_of_selected (hsel.trans h) ?_ hn
      rw [hgood]
      simp [afterGood, hx]
    · exact goodMark_of_qualifies (hsel.trans h) hq hn
    · exact goodMark_of_other (hsel.trans h) hz (by rwa [hsrc]) hn
    · refine goodMark_of_revert (hsel.trans h) hz (by rwa [hsrc]) hy hk ?_ ?_ ?_
      · simpa [htime] using hle
      · simpa [State.priority, htime, wiredMark] using hp
      · simpa [State.priority, htime, hsrc, wiredMark, now] using ho
  have hgoodBy : ∀ h c, goodBy ((s.advance dt).source w.source) m (now - m.capture.elapsed) h c ↔ good h c := by
    simp [goodBy, good, x, MessageContents.announced, Config.nsPerDay]
  have hframe := badMark_markRemoved_frame (s.advance dt) w
  simp only [source_advance, advance_time_frame] at hframe
  refine ⟨⟨_, exec_markTrailingEdge hr dt w, ?_⟩, fun hwide => ⟨_, exec_markWidthLimit hr dt w, ?_⟩⟩
  · by_cases hj : ∃ h c, m.message = some h ∧ h.contents = some c ∧ good h c
    · obtain ⟨h, c, hmsg, hc, hg⟩ := hj
      rw [trailingEdge_of_good hw hmsg hc ((hgoodBy h c).mpr hg)]
      refine ⟨by simp [wired_goodMark, markRemoved], by simp [wired_goodMark, markRemoved], ?_, ?_, ?_, ?_⟩
      · intro h' c' hmsg' hc' _
        obtain rfl : h = h' := Option.some.inj (hmsg.symm.trans hmsg')
        obtain rfl : c = c' := Option.some.inj (hc.symm.trans hc')
        exact ⟨(source_goodMark_same _ (wiredMark (s.advance dt) w m c)).trans (hgood c), htaken c⟩
      · exact fun hb => absurd hg (hb h c hmsg hc)
      · intro y hy
        rw [source_goodMark_ne _ hy]
        simp [markRemoved]
      · exact sameBut_trans (sameBut_mono (setWired_sameBut _ _ _) (by decide))
          (sameBut_mono (goodMark_sameBut _ _) (by decide))
    · have hb : ∀ h c, m.message = some h → h.contents = some c → ¬ good h c :=
        fun h c hmsg hc hg => hj ⟨h, c, hmsg, hc, hg⟩
      rw [trailingEdge_of_bad hw fun h c hmsg hc hg => hb h c hmsg hc ((hgoodBy h c).mp hg)]
      obtain ⟨hmark, hline, hsource, hothers, hsame⟩ := hframe false
      exact ⟨hmark, hline, fun h c hmsg hc hg => absurd hg (hb h c hmsg hc),
        fun _ => ⟨hsource.trans hbad, hlost false⟩, hothers, sameBut_mono hsame (by decide)⟩
  · rw [widthLimit_of_passed hw hwide]
    obtain ⟨hmark, hline, hsource, hothers, hsame⟩ := hframe ((s.advance dt).wired w).lineActive
    exact ⟨hmark, by simpa using hline, hsource.trans hbad, hlost _, hothers, hsame⟩

/-- Settles O24: the parse limits, then the telegram by its class. -/
theorem parseCapturesTelegram : Obligations.ParseCapturesTelegram := by
  intro s dt p f o hr hf ht within
  have hf' : ((s.advance dt).port p).frame = some f := by simpa using hf
  have hparse : f.mayParse o = true ↔ within := mayParse_iff ht o
  refine ⟨fun hw => ?_, fun hw => ?_⟩
  · rw [exec_telegramParse hr, telegramParse_of_not_mayParse hf' ht (mt hparse.mp hw), setFrame_eq, port_advance]
    rfl
  · obtain ⟨hreceived, hposition, hcapture⟩ := openTelegram_received (s.advance dt) f o
    refine ⟨_, f.open_ ((s.advance dt).openTelegram f o), (s.advance dt).openTelegram f o,
      exec_telegramParse hr dt p o, ?_⟩
    rw [telegramParse_of_mayParse hf' (hparse.mpr hw), setFrame_eq]
    refine ⟨by simp, rfl, rfl, rfl, rfl, rfl, hreceived, hposition, hcapture, ?_, ?_, ?_, by simp,
      setPort_sameBut _ _ _⟩
    · intro k hk h1 h2 hl
      have hclass : classOf (field o 2 1) (field o 0 2) = .element k := by
        have hcode : field o 2 1 = kindCode k := by cases k <;> exact hk
        rw [hcode, classOf_element k (isElementAddress_iff.mpr ⟨h1, h2⟩)]
      rw [openTelegram_of_element hclass]
      have hwhole : isWhole o = true := decide_eq_true hl
      exact ⟨rfl, rfl, by simp [Frame.passing, elementContent, hwhole]⟩
    · intro htime master c
      rw [openTelegram_of_time htime]
      have hmaster : (f.processed = true ∧ field o 4 2 = 14 ∧ (s.advance dt).fillsSlots = true) ↔ master := by
        rw [fillsSlots_iff]
        simp [master]
      refine ⟨fun hm => ?_, fun hm => timePass_of_unfilled (mt hmaster.mp hm), timePass_content _ f⟩
      obtain ⟨hinserted, hsent⟩ := timePass_of_filled (hmaster.mpr hm)
      refine ⟨hinserted, hsent.trans ?_⟩
      simp [State.slotOctets, centreOctets, code, c, Config.nsPerDay, Config.forwardPeriods]
    · intro h
      have hclass : classOf (field o 2 1) (field o 0 2) = .other := by
        obtain ⟨hkind, haddress⟩ | ⟨h1, h2, h3, h4⟩ := h
        · have hoff : isElementAddress (field o 0 2) = false := by
            rw [Bool.eq_false_iff, ne_eq, isElementAddress_iff]
            omega
          obtain hkind | hkind := hkind <;> rw [hkind]
          · exact classOf_offTable .command hoff
          · exact classOf_offTable .status hoff
        · exact classOf_unknown _ h1 h2 h3 h4
      rw [openTelegram_of_other hclass]
      exact ⟨rfl, rfl, rfl⟩

end Sys2Proof.Proofs
end

section
/-! SUPPORT. Rules of the ring ports: the commands of the rows, what each operation of the part leaves of the ports, and
what it leaves of the values and numbers that the element table holds (spec/03, spec/05). -/

namespace Sys2Proof.Laws

open Sys2Proof Sys2Proof.Machine

/-! ## The rows of the ring ports -/

theorem exec_firstLinkReport {s : State} (h : s.inReset = false) (dt : Nat) (p : PortId) (up : Bool) :
    exec (.firstLinkReport dt p up) s = .next ((s.advance dt).firstReport p up) :=
  timed_of_running h dt (fun s => s.firstReport p up)

theorem exec_linkDown {s : State} (h : s.inReset = false) (dt : Nat) (p : PortId) :
    exec (.linkDown dt p) s = .next ((s.advance dt).linkDown p) :=
  timed_of_running h dt (fun s => s.linkDown p)

theorem exec_linkUp {s : State} (h : s.inReset = false) (dt : Nat) (p : PortId) :
    exec (.linkUp dt p) s = .next ((s.advance dt).linkUp p) :=
  timed_of_running h dt (fun s => s.linkUp p)

theorem exec_loopStateChange {s : State} (h : s.inReset = false) (dt : Nat) (p : PortId) :
    exec (.loopStateChange dt p) s = .next ((s.advance dt).applyLoop p) :=
  timed_of_running h dt (fun s => s.applyLoop p)

theorem exec_frameStart {s : State} (h : s.inReset = false) (dt : Nat) (p : PortId) (head : List Byte) :
    exec (.frameStart dt p head) s = .next ((s.advance dt).frameStart p head) :=
  timed_of_running h dt (fun s => s.frameStart p head)

theorem exec_telegramCheck {s : State} (h : s.inReset = false) (dt : Nat) (p : PortId) (check : Word16) :
    exec (.telegramCheck dt p check) s = .next ((s.advance dt).telegramCheck p check) :=
  timed_of_running h dt (fun s => s.telegramCheck p check)

theorem exec_frameCut {s : State} (h : s.inReset = false) (dt : Nat) (p : PortId) (o : List Byte) :
    exec (.frameCut dt p o) s = .next ((s.advance dt).frameCut p o) :=
  timed_of_running h dt (fun s => s.frameCut p o)

theorem exec_frameEnd {s : State} (h : s.inReset = false) (dt : Nat) (p : PortId) (o : List Byte) :
    exec (.frameEnd dt p o) s = .next ((s.advance dt).frameEnd p o) :=
  timed_of_running h dt (fun s => s.frameEnd p o)

theorem exec_portSilenceDeadline {s : State} (h : s.inReset = false) (dt : Nat) (p : PortId) :
    exec (.portSilenceDeadline dt p) s = .next ((s.advance dt).portSilence p) :=
  timed_of_running h dt (fun s => s.portSilence p)

theorem exec_lastOctetLeft {s : State} (h : s.inReset = false) (dt : Nat) (p : PortId) :
    exec (.lastOctetLeft dt p) s = .next ((s.advance dt).lastOctetLeft p) :=
  timed_of_running h dt (fun s => s.lastOctetLeft p)

/-! ## Reading and writing ports -/

@[simp] theorem setPort_setPort (s : State) (p : PortId) (x y : Port) :
    (s.setPort p x).setPort p y = s.setPort p y := by
  cases p <;> rfl

@[simp] theorem setPort_port (s : State) (p : PortId) : s.setPort p (s.port p) = s := by
  cases p <;> rfl

theorem other_ne (p : PortId) : p.other ≠ p := by
  cases p <;> decide

theorem eq_other_of_ne {p q : PortId} (h : q ≠ p) : q = p.other := by
  cases p <;> cases q <;> simp_all [PortId.other]

theorem port_setPort (s : State) (p q : PortId) (x : Port) :
    (s.setPort p x).port q = if q = p then x else s.port q := by
  by_cases h : q = p
  · subst h
    simp
  · rw [port_setPort_ne s x h, if_neg h]

theorem port_modifyPort (s : State) (p q : PortId) (f : Port → Port) :
    (s.modifyPort p f).port q = if q = p then f (s.port q) else s.port q := by
  unfold State.modifyPort
  rw [port_setPort]
  by_cases h : q = p <;> simp [h]

@[simp] theorem port_modifyPort_same (s : State) (p : PortId) (f : Port → Port) :
    (s.modifyPort p f).port p = f (s.port p) := port_setPort_same s p _

@[simp] theorem port_modifyPort_other (s : State) (p : PortId) (f : Port → Port) :
    (s.modifyPort p f).port p.other = s.port p.other := port_setPort_other s p _

theorem modifyPort_sameBut (s : State) (p : PortId) (f : Port → Port) :
    sameBut s (s.modifyPort p f) [.portA, .portB] := setPort_sameBut s p _

/-- States that agree on both ports agree on the port of every name. -/
theorem port_congr {s t : State} (h : t.portA = s.portA ∧ t.portB = s.portB) (p : PortId) : t.port p = s.port p := by
  obtain ⟨ha, hb⟩ := h
  cases p
  · exact ha
  · exact hb

/-- Agreement outside a list that names no port is agreement on the ports. -/
theorem ports_of_sameBut {s t : State} {l : List Block} (h : sameBut s t l)
    (hl : Block.portA ∉ l ∧ Block.portB ∉ l := by decide) : t.portA = s.portA ∧ t.portB = s.portB :=
  ⟨h .portA hl.1, h .portB hl.2⟩

@[simp] theorem port_note (s : State) (c : Capture) (b : EntryBody) (a : Bool) (p : PortId) :
    (s.note c b a).port p = s.port p := port_congr (by simp) p

@[simp] theorem port_raise (s : State) (r : Raise) (p : PortId) : (s.raise r).port p = s.port p :=
  port_congr (by simp) p

/-! ## What the element table holds of the telegrams accepted -/

/-- What acceptance alone writes in a record: its held values and the numbers of its windows (R80, R81). -/
def heldBy (r : ElementRecord) : Nat × Option Held × Option Held × Option Nat × Option Nat :=
  (r.address, r.lastCommand, r.lastStatus, r.commandSequence, r.statusSequence)

theorem heldBy_mapPoint (r : ElementRecord) (f : PointPart → PointPart) : heldBy (r.mapPoint f) = heldBy r := by
  unfold ElementRecord.mapPoint
  split <;> rfl

theorem heldBy_mapSignal (r : ElementRecord) (f : SignalPart → SignalPart) : heldBy (r.mapSignal f) = heldBy r := by
  unfold ElementRecord.mapSignal
  split <;> rfl

/-- Changing a record outside what it holds of telegrams leaves that of every record. -/
theorem modifyElement_held (s : State) (a : Nat) {f : ElementRecord → ElementRecord} (hf : ∀ r, heldBy (f r) = heldBy r) :
    (s.modifyElement a f).elements.map heldBy = s.elements.map heldBy := by
  simp only [State.modifyElement, List.map_map]
  refine List.map_congr_left fun r _ => ?_
  by_cases h : r.address = a <;> simp [h, hf]

/-- Tables that are the same but for latches hold the same of telegrams. -/
theorem held_of_sameElements {s t : State} (h : sameElements s t) : t.elements.map heldBy = s.elements.map heldBy := by
  have key : ∀ u : State, u.elements.map heldBy = (u.elements.map ElementRecord.unlatched).map heldBy := by
    intro u
    rw [List.map_map]
    rfl
  rw [key, key, h]

@[simp] theorem raise_held (s : State) (r : Raise) :
    (s.raise r).elements.map heldBy = s.elements.map heldBy := held_of_sameElements (raise_sameElements s r)

@[simp] theorem elementFault_held (s : State) (a : Nat) (c : Capture) (d : FaultDetail) (t : Bool) :
    (s.elementFault a c d t).elements.map heldBy = s.elements.map heldBy := raise_held s _

@[simp] theorem modifyPoint_held (s : State) (a : Nat) (f : PointPart → PointPart) :
    (s.modifyPoint a f).elements.map heldBy = s.elements.map heldBy :=
  modifyElement_held s a (fun r => heldBy_mapPoint r f)

@[simp] theorem modifySignal_held (s : State) (a : Nat) (f : SignalPart → SignalPart) :
    (s.modifySignal a f).elements.map heldBy = s.elements.map heldBy :=
  modifyElement_held s a (fun r => heldBy_mapSignal r f)

@[simp] theorem setMovement_held (s : State) (a : Nat) (m : Option Movement) :
    (s.setMovement a m).elements.map heldBy = s.elements.map heldBy := modifyPoint_held s a _

@[simp] theorem endMovement_held (s : State) (a : Nat) (m : Movement) (o : MovementOutcome) (c : Capture)
    (d : Option Nat) (f : Option ActionKind) :
    (s.endMovement a m o c d f).elements.map heldBy = s.elements.map heldBy := by
  simp [State.endMovement]

@[simp] theorem trainEvent_held (s : State) (v : TrainEvent) :
    (s.trainEvent v).elements.map heldBy = s.elements.map heldBy := by
  unfold State.trainEvent State.verdict
  dsimp only
  split <;> split <;> simp

@[simp] theorem modifyPoint_ports (s : State) (a : Nat) (f : PointPart → PointPart) :
    (s.modifyPoint a f).portA = s.portA ∧ (s.modifyPoint a f).portB = s.portB := ⟨rfl, rfl⟩

@[simp] theorem modifySignal_ports (s : State) (a : Nat) (f : SignalPart → SignalPart) :
    (s.modifySignal a f).portA = s.portA ∧ (s.modifySignal a f).portB = s.portB := ⟨rfl, rfl⟩

/-! ## Supervision leaves both ports, and what every record holds of telegrams (spec/06, spec/07) -/

@[simp] theorem startDeadline_keeps (s : State) (a : Nat) :
    (s.startDeadline a).portA = s.portA ∧ (s.startDeadline a).portB = s.portB
      ∧ (s.startDeadline a).elements.map heldBy = s.elements.map heldBy := by
  unfold State.startDeadline
  split
  · split
    · split
      · split <;> simp
      · simp
    · simp
  · simp

@[simp] theorem failToDetect_keeps (s : State) (r : ElementRecord) (p : PointPart) (m : Movement) (c : Capture) :
    (s.failToDetect r p m c).portA = s.portA ∧ (s.failToDetect r p m c).portB = s.portB
      ∧ (s.failToDetect r p m c).elements.map heldBy = s.elements.map heldBy := by
  simp [State.failToDetect]

@[simp] theorem runDeadline_keeps (s : State) (a : Nat) :
    (s.runDeadline a).portA = s.portA ∧ (s.runDeadline a).portB = s.portB
      ∧ (s.runDeadline a).elements.map heldBy = s.elements.map heldBy := by
  unfold State.runDeadline
  split
  · split
    · split
      · split
        · split <;> simp
        · simp
      · simp
    · simp
  · simp

@[simp] theorem judgeHistory_keeps (s : State) (a : Nat) (h : List Nat) (d w : Nat) (c : Capture) :
    (s.judgeHistory a h d w c).portA = s.portA ∧ (s.judgeHistory a h d w c).portB = s.portB
      ∧ (s.judgeHistory a h d w c).elements.map heldBy = s.elements.map heldBy := by
  unfold State.judgeHistory
  dsimp only
  split
  · split <;> simp
  · simp

@[simp] theorem settleDeadline_keeps (s : State) (a : Nat) :
    (s.settleDeadline a).portA = s.portA ∧ (s.settleDeadline a).portB = s.portB
      ∧ (s.settleDeadline a).elements.map heldBy = s.elements.map heldBy := by
  unfold State.settleDeadline State.complete
  split
  · split
    · split
      · split <;> simp
      · simp
    · simp
  · simp

@[simp] theorem takeReached_keeps (s : State) (a : Nat) :
    (s.takeReached a).portA = s.portA ∧ (s.takeReached a).portB = s.portB
      ∧ (s.takeReached a).elements.map heldBy = s.elements.map heldBy := by
  unfold State.takeReached
  split
  · dsimp only
    split <;> simp
  · simp

@[simp] theorem reverse_keeps (s : State) (a : Nat) (p : PointPart) (c : Capture) :
    (s.reverse a p c).portA = s.portA ∧ (s.reverse a p c).portB = s.portB
      ∧ (s.reverse a p c).elements.map heldBy = s.elements.map heldBy := by
  unfold State.reverse
  split <;> simp

@[simp] theorem pointCommand_keeps (s : State) (a : Nat) (t : Target) (c : Capture) :
    (s.pointCommand a t c).portA = s.portA ∧ (s.pointCommand a t c).portB = s.portB
      ∧ (s.pointCommand a t c).elements.map heldBy = s.elements.map heldBy := by
  unfold State.pointCommand
  split
  · split
    · dsimp only
      split <;> simp
    · simp
  · simp

@[simp] theorem settlingStatus_keeps (s : State) (r : ElementRecord) (p : PointPart) (m : Movement) (d : Detected)
    (c : Capture) :
    (s.settlingStatus r p m d c).portA = s.portA ∧ (s.settlingStatus r p m d c).portB = s.portB
      ∧ (s.settlingStatus r p m d c).elements.map heldBy = s.elements.map heldBy := by
  unfold State.settlingStatus
  split
  · simp
  · split
    · simp
    · split <;> simp

@[simp] theorem movementStatus_keeps (s : State) (r : ElementRecord) (p : PointPart) (m : Movement) (d : Detected)
    (c : Capture) :
    (s.movementStatus r p m d c).portA = s.portA ∧ (s.movementStatus r p m d c).portB = s.portB
      ∧ (s.movementStatus r p m d c).elements.map heldBy = s.elements.map heldBy := by
  unfold State.movementStatus State.moveOn
  split <;> simp

@[simp] theorem idleStatus_keeps (s : State) (r : ElementRecord) (v : Option Value) (d : Detected) (h : Bool)
    (c : Capture) :
    (s.idleStatus r v d h c).portA = s.portA ∧ (s.idleStatus r v d h c).portB = s.portB
      ∧ (s.idleStatus r v d h c).elements.map heldBy = s.elements.map heldBy := by
  unfold State.idleStatus
  split
  · simp
  · simp
  · simp
  · split <;> simp
  · simp

@[simp] theorem pointStatus_keeps (s : State) (a : Nat) (v : Option Value) (d : Detected) (h : Bool) (c : Capture) :
    (s.pointStatus a v d h c).portA = s.portA ∧ (s.pointStatus a v d h c).portB = s.portB
      ∧ (s.pointStatus a v d h c).elements.map heldBy = s.elements.map heldBy := by
  unfold State.pointStatus
  split
  · split
    · split
      · split <;> simp
      · simp
    · simp
  · simp

@[simp] theorem confirmDeadline_keeps (s : State) (a : Nat) :
    (s.confirmDeadline a).portA = s.portA ∧ (s.confirmDeadline a).portB = s.portB
      ∧ (s.confirmDeadline a).elements.map heldBy = s.elements.map heldBy := by
  unfold State.confirmDeadline
  split
  · split
    · split
      · split
        · dsimp only
          split <;> simp
        · simp
      · simp
    · simp
  · simp

@[simp] theorem signalCommand_keeps (s : State) (a k : Nat) (t : Option TrainTag) (c : Capture) :
    (s.signalCommand a k t c).portA = s.portA ∧ (s.signalCommand a k t c).portB = s.portB
      ∧ (s.signalCommand a k t c).elements.map heldBy = s.elements.map heldBy := by
  simp [State.signalCommand]

@[simp] theorem judgeLamp_keeps (s : State) (r : ElementRecord) (v : Option Value) (n : Nat) (l : Lamp) (c : Capture) :
    (s.judgeLamp r v n l c).portA = s.portA ∧ (s.judgeLamp r v n l c).portB = s.portB
      ∧ (s.judgeLamp r v n l c).elements.map heldBy = s.elements.map heldBy := by
  unfold State.judgeLamp
  split <;> simp

@[simp] theorem judgeDrop_keeps (s : State) (r : ElementRecord) (g : SignalPart) (v : Option Value) (n : Nat) (h : Bool)
    (c : Capture) :
    (s.judgeDrop r g v n h c).portA = s.portA ∧ (s.judgeDrop r g v n h c).portB = s.portB
      ∧ (s.judgeDrop r g v n h c).elements.map heldBy = s.elements.map heldBy := by
  unfold State.judgeDrop
  split
  · split <;> simp
  · simp

@[simp] theorem giveTrainEvent_keeps (s : State) (a : Nat) (g : SignalPart) (t : TrainTag) (k : CheckKind)
    (c : Capture) :
    (s.giveTrainEvent a g t k c).portA = s.portA ∧ (s.giveTrainEvent a g t k c).portB = s.portB
      ∧ (s.giveTrainEvent a g t k c).elements.map heldBy = s.elements.map heldBy := by
  unfold State.giveTrainEvent
  split <;> simp

@[simp] theorem confirm_keeps (s : State) (a : Nat) (g : SignalPart) (k : Confirmation) (c : Capture) :
    (s.confirm a g k c).portA = s.portA ∧ (s.confirm a g k c).portB = s.portB
      ∧ (s.confirm a g k c).elements.map heldBy = s.elements.map heldBy := by
  unfold State.confirm
  dsimp only
  split
  · split <;> simp
  · simp

@[simp] theorem pass_keeps (s : State) (a : Nat) (g : SignalPart) (t : TrainTag) (c : Capture) :
    (s.pass a g t c).portA = s.portA ∧ (s.pass a g t c).portB = s.portB
      ∧ (s.pass a g t c).elements.map heldBy = s.elements.map heldBy := by
  simp [State.pass]

@[simp] theorem judgeTrain_keeps (s : State) (r : ElementRecord) (g : SignalPart) (n : Nat) (l : Lamp) (c : Capture) :
    (s.judgeTrain r g n l c).portA = s.portA ∧ (s.judgeTrain r g n l c).portB = s.portB
      ∧ (s.judgeTrain r g n l c).elements.map heldBy = s.elements.map heldBy := by
  unfold State.judgeTrain
  split
  · split
    · simp
    · split
      · split <;> simp
      · simp
  · split <;> simp
  · simp

@[simp] theorem signalStatus_keeps (s : State) (a : Nat) (v : Option Value) (n : Nat) (l : Lamp) (h : Bool)
    (c : Capture) :
    (s.signalStatus a v n l h c).portA = s.portA ∧ (s.signalStatus a v n l h c).portB = s.portB
      ∧ (s.signalStatus a v n l h c).elements.map heldBy = s.elements.map heldBy := by
  unfold State.signalStatus
  split
  · split
    · dsimp only
      split <;> simp
    · simp
  · simp

@[simp] theorem handOff_keeps (s : State) (m : ElementMode) (t : ElementTelegram) (old : Option Value) (v : Value)
    (h : Bool) :
    (s.handOff m t old v h).portA = s.portA ∧ (s.handOff m t old v h).portB = s.portB
      ∧ (s.handOff m t old v h).elements.map heldBy = s.elements.map heldBy := by
  unfold State.handOff
  split
  · split <;> simp
  · simp
  · split <;> simp
  · simp
  · split <;> simp
  · simp
  · simp

end Sys2Proof.Laws
end

section
/-! SUPPORT. What every operation of the part leaves of the two ports. -/

namespace Sys2Proof.Laws

open Sys2Proof Sys2Proof.Machine

/-! ## What leaves both ports: time base, reference selector and clock lines (spec/01, spec/02, spec/10) -/

@[simp] theorem holdoverSecond_ports (s : State) :
    (s.holdoverSecond).portA = s.portA ∧ (s.holdoverSecond).portB = s.portB := by
  unfold State.holdoverSecond
  split
  · split <;> simp
  · simp

@[simp] theorem scaleEndHold_ports (s : State) :
    (s.scaleEndHold).portA = s.portA ∧ (s.scaleEndHold).portB = s.portB := by
  unfold State.scaleEndHold
  split <;> simp

@[simp] theorem secondMarkStart_ports (s : State) :
    (s.secondMarkStart).portA = s.portA ∧ (s.secondMarkStart).portB = s.portB := by
  unfold State.secondMarkStart
  split
  · split <;> simp
  · simp

@[simp] theorem secondMarkFall_ports (s : State) :
    (s.secondMarkFall).portA = s.portA ∧ (s.secondMarkFall).portB = s.portB := by
  unfold State.secondMarkFall
  split <;> simp

@[simp] theorem setLocalOffset_ports (s : State) (o : Option Int) (i : Option Instant) :
    (s.setLocalOffset o i).portA = s.portA ∧ (s.setLocalOffset o i).portB = s.portB := by
  unfold State.setLocalOffset
  split <;> simp

@[simp] theorem goodMark_ports (s : State) (m : AcceptedMark) :
    (s.goodMark m).portA = s.portA ∧ (s.goodMark m).portB = s.portB := ports_of_sameBut (goodMark_sameBut s m)

@[simp] theorem badMark_ports (s : State) (x : Source) :
    (s.badMark x).portA = s.portA ∧ (s.badMark x).portB = s.portB := ports_of_sameBut (badMark_sameBut s x)

@[simp] theorem evalSelection_ports (s : State) (c : Bool) :
    (s.evalSelection c).portA = s.portA ∧ (s.evalSelection c).portB = s.portB :=
  ports_of_sameBut (evalSelection_sameBut s c)

@[simp] theorem completeMessage_ports (s : State) (w : Wired) (o : List Byte) :
    (s.completeMessage w o).portA = s.portA ∧ (s.completeMessage w o).portB = s.portB :=
  ports_of_sameBut (completeMessage_sameBut s w o)

@[simp] theorem referenceMessage_ports (s : State) (w : Wired) (o : List Byte) :
    (s.referenceMessage w o).portA = s.portA ∧ (s.referenceMessage w o).portB = s.portB := by
  unfold State.referenceMessage
  split <;> simp

@[simp] theorem messageOctet_ports (s : State) (w : Wired) (b : Byte) :
    (s.messageOctet w b).portA = s.portA ∧ (s.messageOctet w b).portB = s.portB := by
  unfold State.messageOctet
  split
  · dsimp only
    generalize (if s.octetLate w = true then [] else (s.wired w).collected) = held
    split
    · simp
    · split <;> simp
  · simp

@[simp] theorem dropPartial_ports (s : State) (w : Wired) :
    (s.dropPartial w).portA = s.portA ∧ (s.dropPartial w).portB = s.portB := by
  simp [State.dropPartial]

@[simp] theorem octetTimeout_ports (s : State) (w : Wired) :
    (s.octetTimeout w).portA = s.portA ∧ (s.octetTimeout w).portB = s.portB := by
  unfold State.octetTimeout
  split <;> simp

@[simp] theorem leadingEdge_ports (s : State) (w : Wired) :
    (s.leadingEdge w).portA = s.portA ∧ (s.leadingEdge w).portB = s.portB := by
  unfold State.leadingEdge
  split
  · simp
  · split
    · dsimp only
      split <;> simp
    · simp

@[simp] theorem judgeMark_ports (s : State) (w : Wired) (m : MarkInProgress) (n : Nat) :
    (s.judgeMark w m n).portA = s.portA ∧ (s.judgeMark w m n).portB = s.portB := by
  unfold State.judgeMark
  dsimp only
  split <;> simp

@[simp] theorem trailingEdge_ports (s : State) (w : Wired) :
    (s.trailingEdge w).portA = s.portA ∧ (s.trailingEdge w).portB = s.portB := by
  unfold State.trailingEdge
  dsimp only
  split <;> simp

@[simp] theorem widthLimit_ports (s : State) (w : Wired) :
    (s.widthLimit w).portA = s.portA ∧ (s.widthLimit w).portB = s.portB := by
  unfold State.widthLimit
  split
  · split <;> simp
  · simp

@[simp] theorem markDeadline_ports (s : State) (x : Source) :
    (s.markDeadline x).portA = s.portA ∧ (s.markDeadline x).portB = s.portB := by
  unfold State.markDeadline
  split
  · split <;> simp
  · simp

@[simp] theorem absenceDeadline_ports (s : State) (x : Source) :
    (s.absenceDeadline x).portA = s.portA ∧ (s.absenceDeadline x).portB = s.portB := by
  have hforget : ∀ u : State, (u.forgetRing x).portA = u.portA ∧ (u.forgetRing x).portB = u.portB := by
    intro u
    cases x <;> exact ⟨rfl, rfl⟩
  unfold State.absenceDeadline State.becomeAbsent
  split
  · dsimp only
    split <;> simp [hforget]
  · simp

@[simp] theorem revertInstant_ports (s : State) (x : Source) :
    (s.revertInstant x).portA = s.portA ∧ (s.revertInstant x).portB = s.portB := by
  have hselect := ports_of_sameBut (select_sameBut s x .revert)
  unfold State.revertInstant
  split <;> simp [hselect]

@[simp] theorem ringTelegram_ports (s : State) (b : List Byte) (c : Capture) :
    (s.ringTelegram b c).portA = s.portA ∧ (s.ringTelegram b c).portB = s.portB := by
  have hmark : ∀ (u : State) (t : TimeSlot), (u.ringMark t c).portA = u.portA ∧ (u.ringMark t c).portB = u.portB := by
    intro u t
    by_cases hs : u.refs.ring.state = .absent <;> by_cases hf : (u.followed t && t.second.isSome) = true <;>
      by_cases hg : u.goodSlot t = true <;> simp [State.ringMark, hs, hf, hg]
  unfold State.ringTelegram State.renewAbsence
  split
  · dsimp only
    split
    · split <;> simp
    · split <;> simp [hmark]
  · simp

@[simp] theorem setTimeConfig_ports (s : State) (p : TimeConfigParams) :
    (s.setTimeConfig p).portA = s.portA ∧ (s.setTimeConfig p).portB = s.portB := by
  simp [State.setTimeConfig]

@[simp] theorem escalate_ports (s : State) (l : LineId) (c : Capture) :
    (s.escalate l c).portA = s.portA ∧ (s.escalate l c).portB = s.portB := by
  simp [State.escalate]

@[simp] theorem senseShort_ports (s : State) (l : LineId) :
    (s.senseShort l).portA = s.portA ∧ (s.senseShort l).portB = s.portB := by
  unfold State.senseShort State.short
  split
  · split
    · dsimp only
      split <;> simp
    · simp
  · simp

@[simp] theorem senseCurrent_ports (s : State) (l : LineId) (b : Bool) :
    (s.senseCurrent l b).portA = s.portA ∧ (s.senseCurrent l b).portB = s.portB := by
  simp [State.senseCurrent]

@[simp] theorem senseOvercurrent_ports (s : State) (l : LineId) (b : Bool) :
    (s.senseOvercurrent l b).portA = s.portA ∧ (s.senseOvercurrent l b).portB = s.portB := by
  simp [State.senseOvercurrent]

@[simp] theorem startPulse_ports (s : State) (l : LineId) :
    (s.startPulse l).portA = s.portA ∧ (s.startPulse l).portB = s.portB := by
  unfold State.startPulse
  split
  · split <;> simp
  · simp

@[simp] theorem endPulse_ports (s : State) (l : LineId) :
    (s.endPulse l).portA = s.portA ∧ (s.endPulse l).portB = s.portB := by
  unfold State.endPulse State.openPulse
  split
  · split
    · split
      · simp
      · dsimp only
        split <;> simp
    · simp
  · simp

@[simp] theorem endRetry_ports (s : State) (l : LineId) :
    (s.endRetry l).portA = s.portA ∧ (s.endRetry l).portB = s.portB := by
  unfold State.endRetry
  split <;> simp

@[simp] theorem setClockLine_ports (s : State) (p : ClockLineParams) :
    (s.setClockLine p).portA = s.portA ∧ (s.setClockLine p).portB = s.portB := by
  unfold State.setClockLine
  split
  · simp
  · dsimp only
    split <;> simp

/-! ## What leaves both ports: elements, timetable, record and operating state (spec/04, spec/05, spec/08, spec/09) -/

@[simp] theorem silenceDeadline_ports (s : State) (a : Nat) :
    (s.silenceDeadline a).portA = s.portA ∧ (s.silenceDeadline a).portB = s.portB := by
  unfold State.silenceDeadline
  split
  · split <;> simp
  · simp

@[simp] theorem applyElement_ports (s : State) (t : ElementTelegram) (b : List Byte) :
    (s.applyElement t b).portA = s.portA ∧ (s.applyElement t b).portB = s.portB := by
  have hcover : ∀ u : State, (u.coverageStep t).portA = u.portA ∧ (u.coverageStep t).portB = u.portB := by
    intro u
    unfold State.coverageStep
    split
    · simp
    · split <;> simp
  have haccept : ∀ r v, (s.acceptTelegram r t v).portA = s.portA ∧ (s.acceptTelegram r t v).portB = s.portB := by
    intro r v
    unfold State.acceptTelegram State.elementEntry
    dsimp only
    split <;> split <;> simp [hcover]
  unfold State.applyElement
  split
  · simp
  · split
    · simp
    · split
      · simp
      · exact haccept _ _

@[simp] theorem loadElement_ports (s : State) (p : LoadElementParams) :
    (s.loadElement p).portA = s.portA ∧ (s.loadElement p).portB = s.portB := by
  unfold State.loadElement
  split <;> simp

@[simp] theorem unloadElement_ports (s : State) (a : Nat) :
    (s.unloadElement a).portA = s.portA ∧ (s.unloadElement a).portB = s.portB := ⟨rfl, rfl⟩

@[simp] theorem abandon_ports (s : State) (a : Nat) :
    (s.abandon a).portA = s.portA ∧ (s.abandon a).portB = s.portB := by
  unfold State.abandon
  split <;> simp

@[simp] theorem setElementMode_ports (s : State) (a m : Nat) :
    (s.setElementMode a m).portA = s.portA ∧ (s.setElementMode a m).portB = s.portB := by
  unfold State.setElementMode
  split
  · split <;> simp
  · simp

@[simp] theorem loadEntry_ports (s : State) (p : LoadEntryParams) :
    (s.loadEntry p).portA = s.portA ∧ (s.loadEntry p).portB = s.portB := by
  unfold State.loadEntry State.addReference State.dropReference
  split
  · simp
  · dsimp only
    split <;> simp

@[simp] theorem withdrawEntry_ports (s : State) (i : Nat) :
    (s.withdrawEntry i).portA = s.portA ∧ (s.withdrawEntry i).portB = s.portB := by
  unfold State.withdrawEntry
  split
  · split <;> simp
  · simp

@[simp] theorem erasePeriod_ports (s : State) (p : Nat) :
    (s.erasePeriod p).portA = s.portA ∧ (s.erasePeriod p).portB = s.portB := by
  unfold State.erasePeriod State.dropReference
  split
  · simp
  · exact ⟨foldl_same State.portA _ (by simp) _ _, foldl_same State.portB _ (by simp) _ _⟩

@[simp] theorem acknowledgeRecord_ports (s : State) (n : Word32) :
    (s.acknowledgeRecord n).portA = s.portA ∧ (s.acknowledgeRecord n).portB = s.portB := by
  unfold State.acknowledgeRecord State.removeThrough
  split <;> simp

@[simp] theorem acknowledgeAlarm_ports (s : State) (t a : Nat) :
    (s.acknowledgeAlarm t a).portA = s.portA ∧ (s.acknowledgeAlarm t a).portB = s.portB := by
  have hclear : ∀ x, (s.clearLatch x).portA = s.portA ∧ (s.clearLatch x).portB = s.portB := by
    intro x
    unfold State.clearLatch
    split <;> simp
  unfold State.acknowledgeAlarm State.releaseTarget
  split
  · split <;> simp [hclear]
  · simp

@[simp] theorem leaveRun_ports (s : State) (c : Cause) :
    (s.leaveRun c).portA = s.portA ∧ (s.leaveRun c).portB = s.portB := by
  have hfold : ∀ (l : List Nat) (u : State),
      (l.foldl State.abandon u).portA = u.portA ∧ (l.foldl State.abandon u).portB = u.portB := fun l u =>
    ⟨foldl_same State.portA _ (by simp) l u, foldl_same State.portB _ (by simp) l u⟩
  simp [State.leaveRun, State.elementsLeaveRun, hfold]

@[simp] theorem requestState_ports (s : State) (v : Nat) :
    (s.requestState v).portA = s.portA ∧ (s.requestState v).portB = s.portB := by
  unfold State.requestState State.enterRun State.elementsEnterRun
  split <;> simp

@[simp] theorem restart_ports (s : State) : (s.restart).portA = s.portA ∧ (s.restart).portB = s.portB := by
  unfold State.restart State.clearTables
  dsimp only
  split <;> simp

/-- SET RING PORT alone of the requests writes a port. -/
theorem effect_ports (s : State) {r : Request} (h : ∀ p m l, r ≠ .setRingPort p m l) :
    (s.effect r).portA = s.portA ∧ (s.effect r).portB = s.portB := by
  cases r with
  | setRingPort p m l => exact absurd rfl (h p m l)
  | setTimetableSettings l g => exact ⟨rfl, rfl⟩
  | setChangeover i d => exact ⟨rfl, rfl⟩
  | setActions n l => exact ⟨rfl, rfl⟩
  | setRunCondition v => exact ⟨rfl, rfl⟩
  | _ => simp [State.effect]

end Sys2Proof.Laws
end

section
/-! SUPPORT. What a port's step leaves of the loop and the record. -/

namespace Sys2Proof.Laws

open Sys2Proof Sys2Proof.Machine

/-! ## The loop state and the record of a port's steps (R53) -/

theorem modifyPort_sameForRecord (s : State) (p : PortId) (f : Port → Port) : sameForRecord s (s.modifyPort p f) := by
  simp [sameForRecord]

theorem note_congr {s t : State} (h : sameForRecord s t) (c : Capture) (b : EntryBody) (a : Bool) :
    sameForRecord (s.note c b a) (t.note c b a) := attempt_congr h _

theorem record_note_congr {s t : State} (h : sameForRecord s t) (c : Capture) (b : EntryBody) (a : Bool) :
    (t.note c b a).record = (s.note c b a).record := (note_congr h c b a).1

/-- A capture depends on the time base alone. -/
theorem capture_eq {s t : State} (h : t.time = s.time) : t.capture = s.capture := by
  simp [State.capture, h]

/-- The port once its loop state has followed its demand, where its transmitter lets it (R53). -/
def loopFollowed (x : Port) : Port := { x with loop := if x.transmitter = .idle then x.demand else x.loop }

/-- An idle transmitter lets a loop state that differs from its demand follow it, with its entry (R53). -/
theorem applyLoop_of_follows {s : State} {p : PortId} (hd : (s.port p).demand ≠ (s.port p).loop)
    (ht : (s.port p).transmitter = .idle) :
    s.applyLoop p = (s.setPort p { s.port p with loop := (s.port p).demand }).note s.capture
      (.portLoop p (s.port p).demand (s.port p).mode) := if_pos ⟨hd, ht⟩

theorem applyLoop_of_stays {s : State} {p : PortId}
    (h : ¬ ((s.port p).demand ≠ (s.port p).loop ∧ (s.port p).transmitter = .idle)) : s.applyLoop p = s := if_neg h

theorem loopFollowed_of_stays {x : Port} (h : ¬ (x.demand ≠ x.loop ∧ x.transmitter = .idle)) : loopFollowed x = x := by
  have hloop : (if x.transmitter = .idle then x.demand else x.loop) = x.loop := by
    split
    · next ht => exact by_contra fun hd => h ⟨hd, ht⟩
    · rfl
  rw [loopFollowed, hloop]

@[simp] theorem port_applyLoop_same (s : State) (p : PortId) : (s.applyLoop p).port p = loopFollowed (s.port p) := by
  by_cases h : (s.port p).demand ≠ (s.port p).loop ∧ (s.port p).transmitter = .idle
  · rw [applyLoop_of_follows h.1 h.2, port_note, port_setPort_same, loopFollowed, if_pos h.2]
  · rw [applyLoop_of_stays h, loopFollowed_of_stays h]

@[simp] theorem port_applyLoop_other (s : State) (p : PortId) :
    (s.applyLoop p).port p.other = s.port p.other := by
  unfold State.applyLoop
  dsimp only
  split <;> simp

/-- A LOOP entry is formed exactly when the loop state changes (R53). -/
theorem record_applyLoop (s : State) (p : PortId) :
    (s.applyLoop p).record =
      if (loopFollowed (s.port p)).loop = (s.port p).loop then s.record
      else (s.note s.capture (.portLoop p (loopFollowed (s.port p)).loop (s.port p).mode)).record := by
  unfold loopFollowed
  dsimp only
  by_cases ht : (s.port p).transmitter = .idle
  · rw [if_pos ht]
    by_cases hd : (s.port p).demand = (s.port p).loop
    · rw [if_pos hd, applyLoop_of_stays fun h => h.1 hd]
    · rw [if_neg hd, applyLoop_of_follows hd ht]
      exact record_note_congr (modifyPort_sameForRecord s p fun x => { x with loop := x.demand }) _ _ _
  · rw [if_neg ht, if_pos rfl, applyLoop_of_stays fun h => ht h.2]

theorem applyLoop_sameBut (s : State) (p : PortId) : sameBut s (s.applyLoop p) [.portA, .portB, .record] := by
  intro b hb
  cases b <;> simp_all [Block.same]

theorem note_sameBut (s : State) (c : Capture) (b : EntryBody) (a : Bool) : sameBut s (s.note c b a) [.record] := by
  intro b hb
  cases b <;> simp_all [Block.same]

/-- A raise whose target is no element leaves the element table. -/
theorem raise_sameBut (s : State) {r : Raise} (h : offTable r.target = true) :
    sameBut s (s.raise r) [.record, .alarms] := by
  have he := raise_elements s r h
  intro b hb
  cases b <;> simp_all [Block.same]

/-! ## Link reports (R50, R51, R52, R60) -/

theorem firstReport_of_unreported {s : State} {p : PortId} (h : (s.port p).reported = false) (up : Bool) :
    s.firstReport p up = s.modifyPort p (fun x => x.firstReport up s.time.elapsed) := by
  simp [State.firstReport, h]

theorem linkUp_of_down {s : State} {p : PortId} (hr : (s.port p).reported = true) (hu : (s.port p).up = false) :
    s.linkUp p = s.takeLinkUp p := by
  simp [State.linkUp, hr, hu]

theorem linkDown_of_up {s : State} {p : PortId} (hr : (s.port p).reported = true) (hu : (s.port p).up = true) :
    s.linkDown p = s.takeLinkDown p := by
  simp [State.linkDown, hr, hu]

/-- What a link-up report leaves of its own port: the report, and then the loop state (R50, R53). -/
theorem port_takeLinkUp_same (s : State) (p : PortId) :
    (s.takeLinkUp p).port p = loopFollowed ((s.port p).goUp s.time.elapsed) := by
  simp [State.takeLinkUp]

theorem port_takeLinkUp_other (s : State) (p : PortId) : (s.takeLinkUp p).port p.other = s.port p.other := by
  simp [State.takeLinkUp]

theorem takeLinkUp_sameBut (s : State) (p : PortId) : sameBut s (s.takeLinkUp p) [.portA, .portB, .record] :=
  sameBut_trans (sameBut_mono (modifyPort_sameBut s p _) (by decide))
    (sameBut_trans (sameBut_mono (note_sameBut _ _ _ _) (by decide)) (applyLoop_sameBut _ p))

/-- The LINK_UP entry, and then that of the loop where it changes (R50; log 45). -/
theorem record_takeLinkUp (s : State) (p : PortId) :
    (s.takeLinkUp p).record =
      if ((s.takeLinkUp p).port p).loop = (s.port p).loop then (s.note s.capture (.portLinkUp p)).record
      else ((s.note s.capture (.portLinkUp p)).note s.capture
        (.portLoop p ((s.takeLinkUp p).port p).loop (s.port p).mode)).record := by
  have hs := note_congr (modifyPort_sameForRecord s p (fun x => x.goUp s.time.elapsed)) s.capture (.portLinkUp p) false
  have hc : ((s.modifyPort p (fun x => x.goUp s.time.elapsed)).note s.capture (.portLinkUp p)).capture = s.capture :=
    capture_eq (by simp)
  rw [port_takeLinkUp_same]
  unfold State.takeLinkUp
  rw [record_applyLoop, port_note, port_modifyPort_same, hc, hs.1, record_note_congr hs]
  rfl

end Sys2Proof.Laws

namespace Sys2Proof.Proofs

open Sys2Proof Sys2Proof.Machine Sys2Proof.Laws

/-- Settles O20: the first report by its four loop modes, and a link that comes up by the port's steps in their order. -/
theorem linkReportsStartThePort : Obligations.LinkReportsStartThePort := by
  intro s dt p hr
  refine ⟨fun up hn => ⟨_, ({ s.port p with up := up } : Port).demandNow, exec_firstLinkReport hr dt p up, ?_⟩,
    fun hrep hup => ⟨_, exec_linkUp hr dt p, ?_⟩⟩
  · rw [firstReport_of_unreported (by simpa using hn)]
    refine ⟨by simp [Port.firstReport, Port.evalDemand, Port.demandNow], fun h => ?_, fun h => ?_, fun h => ?_,
      fun h => ?_, by simp, modifyPort_sameBut _ _ _⟩
    · cases up <;> simp [Port.demandNow, h]
    · cases up <;> cases hp : (s.port p).reopenPending <;> simp [Port.demandNow, h, hp]
    · simp [Port.demandNow, h]
    · simp [Port.demandNow, h]
  · rw [linkUp_of_down (by simpa using hrep) (by simpa using hup)]
    have hrecord := record_takeLinkUp (s.advance dt) p
    rw [port_advance] at hrecord
    refine ⟨?_, ?_, ?_, fun h => ?_, fun h => ?_, fun h => ?_, fun h => ?_, fun h => ?_, fun h => ?_, ?_, ?_, hrecord,
      ?_, takeLinkUp_sameBut _ _⟩
    all_goals simp_all [port_takeLinkUp_same, port_takeLinkUp_other, loopFollowed, Port.goUp, Port.evalDemand,
      Port.demandNow]

end Sys2Proof.Proofs
end

section
/-! SUPPORT. The transmitter that a frame claims, and what link down discards. -/

namespace Sys2Proof.Laws

open Sys2Proof Sys2Proof.Machine

/-! ## The transmitter that a frame has claimed (R54) -/

theorem portsOnly_sameForRecord {s t : State} (h : sameBut s t [.portA, .portB]) : sameForRecord s t := by
  have ht : t.time = s.time := h .time (by decide)
  exact ⟨h .record (by decide), h .alarms (by decide), h .elements (by decide), by rw [ht], by rw [ht], by rw [ht],
    by rw [ht]⟩

/-- The end of a frame completes what its claimed transmitter sends, and no other. -/
theorem port_finishSending (s : State) (p q : PortId) (f : Frame) (o : List Byte) :
    (s.finishSending p f o).port q =
      if f.through = some q then { s.port q with transmitter := .sending p (some o) } else s.port q := by
  unfold State.finishSending
  cases h : f.through with
  | none => simp
  | some r => simp only [port_modifyPort, Option.some.injEq, eq_comm (a := q)]

/-- The cut of a frame frees the transmitter that it has claimed, and no other (R57). -/
theorem port_releaseCut (s : State) (q : PortId) (f : Frame) (o : List Byte) :
    (s.releaseCut f o).port q = if f.through = some q then (s.port q).idleAfter o else s.port q := by
  unfold State.releaseCut
  cases h : f.through with
  | none => simp
  | some r => simp only [port_modifyPort, Option.some.injEq, eq_comm (a := q)]

theorem finishSending_sameBut (s : State) (p : PortId) (f : Frame) (o : List Byte) :
    sameBut s (s.finishSending p f o) [.portA, .portB] := by
  unfold State.finishSending
  split
  · exact modifyPort_sameBut s _ _
  · exact sameBut_refl s _

theorem releaseCut_sameBut (s : State) (f : Frame) (o : List Byte) :
    sameBut s (s.releaseCut f o) [.portA, .portB] := by
  unfold State.releaseCut
  split
  · exact modifyPort_sameBut s _ _
  · exact sameBut_refl s _

/-! ## Link down (R50) -/

theorem loseFrame_of_none {s : State} {p : PortId} (h : (s.port p).frame = none) : s.loseFrame p = s := by
  simp [State.loseFrame, h]

theorem loseFrame_sameBut (s : State) (p : PortId) : sameBut s (s.loseFrame p) [.portA, .portB] := by
  unfold State.loseFrame
  split
  · exact sameBut_refl s _
  · exact sameBut_trans (modifyPort_sameBut s p _) (finishSending_sameBut _ _ _ _)

/-- A port when the link of `p` takes the frame `f` in flight with it: the frame is counted as bad and gone, and the
transmitter that it has claimed ends its copy with a bad check (R50). -/
theorem port_loseFrame_of_some {s : State} {p : PortId} {f : Frame} (h : (s.port p).frame = some f) (q : PortId) :
    (s.loseFrame p).port q =
      { s.port q with
        badFrames := if q = p then min ((s.port q).badFrames + 1) 65535 else (s.port q).badFrames
        reopenCount := if q = p then 0 else (s.port q).reopenCount
        frame := if q = p then none else (s.port q).frame
        transmitter :=
          if f.through = some q then .sending p (some (badlyEnded f.flush.sent)) else (s.port q).transmitter } := by
  have hlose : s.loseFrame p = (s.modifyPort p (fun x => { x.countBad with frame := none })).finishSending p f
      (badlyEnded f.flush.sent) := by
    simp [State.loseFrame, h]
  rw [hlose, port_finishSending, port_modifyPort]
  by_cases hq : q = p
  · subst hq
    by_cases ht : f.through = some q <;> simp [ht, Port.countBad]
  · by_cases ht : f.through = some q <;> simp [hq, ht]

/-- What a discarded frame leaves of every port (R50). -/
theorem loseFrame_keeps (s : State) (p q : PortId) :
    ((s.loseFrame p).port q).mode = (s.port q).mode ∧ ((s.loseFrame p).port q).loop = (s.port q).loop
      ∧ ((s.loseFrame p).port q).activity = (s.port q).activity
      ∧ ((s.loseFrame p).port q).reopenPending = (s.port q).reopenPending
      ∧ ((s.port q).transmitter ≠ .idle → ((s.loseFrame p).port q).transmitter ≠ .idle) := by
  cases h : (s.port p).frame with
  | none => simp [loseFrame_of_none h]
  | some f =>
    rw [port_loseFrame_of_some h]
    exact ⟨rfl, rfl, rfl, rfl, fun hq => by dsimp only; split <;> simp [hq]⟩

/-- The frame in flight of the port whose link goes down is gone; that of the other stays (R50). -/
theorem frame_loseFrame (s : State) (p q : PortId) :
    ((s.loseFrame p).port q).frame = if q = p then none else (s.port q).frame := by
  cases h : (s.port p).frame with
  | none =>
    rw [loseFrame_of_none h]
    split
    · next hq => rw [hq, h]
    · rfl
  | some f => rw [port_loseFrame_of_some h]

/-- A frame in flight that is lost is counted as bad (R50, R58). -/
theorem badFrames_loseFrame (s : State) (p : PortId) :
    ((s.loseFrame p).port p).badFrames =
      if (s.port p).frame.isSome then min ((s.port p).badFrames + 1) 65535 else (s.port p).badFrames := by
  cases h : (s.port p).frame with
  | none => simp [loseFrame_of_none h]
  | some f => simp [port_loseFrame_of_some h]

/-- The port fields that a link-down report leaves as they were (R50). -/
theorem goDown_keeps (x : Port) :
    x.goDown.mode = x.mode ∧ x.goDown.loop = x.loop ∧ x.goDown.activity = x.activity ∧ x.goDown.frame = x.frame
      ∧ x.goDown.badFrames = x.badFrames ∧ x.goDown.reopenPending = x.reopenPending
      ∧ x.goDown.transmitter = x.transmitter := by
  cases h : x.transmitter <;> simp [Port.goDown, Port.loseSent, Port.evalDemand, h]

/-- The port fields that a link-down report writes (R50, R51, R52). -/
theorem goDown_writes (x : Port) :
    x.goDown.up = false ∧ x.goDown.silenceDeadline = none ∧ x.goDown.reopenCount = 0
      ∧ x.goDown.demand = (if x.mode = .alwaysOpen then .isOpen else .isClosed)
      ∧ (x.transmitter ≠ .idle → x.goDown.sendLost = true) := by
  cases h : x.transmitter <;> cases hm : x.mode <;>
    simp [Port.goDown, Port.loseSent, Port.evalDemand, Port.demandNow, h, hm]

theorem port_takeLinkDown_same (s : State) (p : PortId) :
    (s.takeLinkDown p).port p = loopFollowed ((s.loseFrame p).port p).goDown := by
  simp [State.takeLinkDown]

theorem port_takeLinkDown_other (s : State) (p : PortId) :
    (s.takeLinkDown p).port p.other = (s.loseFrame p).port p.other := by
  simp [State.takeLinkDown]

/-- The raise of a link that goes down, with the count of bad frames that it leaves (R50, R58). -/
def linkDownRaise (s : State) (p : PortId) : Raise :=
  { kind := .portLinkDown, target := .port p, capture := s.capture,
    body := .portLinkDown p ((s.loseFrame p).port p).badFrames }

theorem takeLinkDown_eq (s : State) (p : PortId) :
    s.takeLinkDown p =
      ((((s.loseFrame p).modifyPort p Port.goDown).raise (linkDownRaise s p)).applyLoop p) := by
  unfold State.takeLinkDown linkDownRaise
  dsimp only
  rw [port_modifyPort_same, (goDown_keeps _).2.2.2.2.1]

theorem transmitter_takeLinkDown (s : State) (p q : PortId) :
    ((s.takeLinkDown p).port q).transmitter = ((s.loseFrame p).port q).transmitter := by
  by_cases h : q = p
  · subst h
    rw [port_takeLinkDown_same]
    exact (goDown_keeps _).2.2.2.2.2.2
  · rw [eq_other_of_ne h, port_takeLinkDown_other]

theorem takeLinkDown_sameBut (s : State) (p : PortId) :
    sameBut s (s.takeLinkDown p) [.portA, .portB, .record, .alarms] := by
  rw [takeLinkDown_eq]
  exact sameBut_trans (sameBut_mono (loseFrame_sameBut s p) (by decide))
    (sameBut_trans (sameBut_mono (modifyPort_sameBut _ p _) (by decide))
      (sameBut_trans (sameBut_mono (raise_sameBut _ rfl) (by decide)) (sameBut_mono (applyLoop_sameBut _ p) (by decide))))

/-- LINK_DOWN is raised, and a loop state that changes has its entry after it (R50, R53). -/
theorem raised_takeLinkDown (s : State) (p : PortId) :
    (s.takeLinkDown p).alarms = (s.raise (linkDownRaise s p)).alarms
      ∧ (s.takeLinkDown p).record =
          if ((s.takeLinkDown p).port p).loop = (s.port p).loop then (s.raise (linkDownRaise s p)).record
          else ((s.raise (linkDownRaise s p)).note s.capture
            (.portLoop p ((s.takeLinkDown p).port p).loop (s.port p).mode)).record := by
  have hs : sameForRecord (s.raise (linkDownRaise s p))
      (((s.loseFrame p).modifyPort p Port.goDown).raise (linkDownRaise s p)) :=
    raise_congr (portsOnly_sameForRecord (sameBut_trans (loseFrame_sameBut s p) (modifyPort_sameBut _ p _))) _
  have hc : (((s.loseFrame p).modifyPort p Port.goDown).raise (linkDownRaise s p)).capture = s.capture := by
    have ht : (s.loseFrame p).time = s.time := loseFrame_sameBut s p .time (by decide)
    simp [State.capture, ht]
  obtain ⟨hmode, hloop, -⟩ := goDown_keeps ((s.loseFrame p).port p)
  obtain ⟨hmode', hloop', -⟩ := loseFrame_keeps s p p
  rw [port_takeLinkDown_same, takeLinkDown_eq, record_applyLoop, port_raise, port_modifyPort_same, hc, hs.1,
    record_note_congr hs, hmode, hloop, hmode', hloop']
  exact ⟨by simpa using hs.2.1, rfl⟩

end Sys2Proof.Laws

namespace Sys2Proof.Proofs

open Sys2Proof Sys2Proof.Machine Sys2Proof.Laws

/-- Settles O21: the frame in flight is lost, the link goes down, LINK_DOWN is raised, and the loop follows. -/
theorem linkDownDiscards : Obligations.LinkDownDiscards := by
  intro s dt p hr hrep hup n
  refine ⟨_, exec_linkDown hr dt p, ?_⟩
  rw [linkDown_of_up (by simpa using hrep) (by simpa using hup)]
  have hn : (((s.advance dt).loseFrame p).port p).badFrames = n := by simp [badFrames_loseFrame, n]
  have hport := port_takeLinkDown_same (s.advance dt) p
  have hother := port_takeLinkDown_other (s.advance dt) p
  have htransmitter := transmitter_takeLinkDown (s.advance dt) p
  have hframe := frame_loseFrame (s.advance dt) p
  obtain ⟨hmode, hloop, hactivity, hpending, hbusy⟩ := loseFrame_keeps (s.advance dt) p p
  obtain ⟨dmode, dloop, dactivity, dframe, dbad, dpending, dtransmitter⟩ :=
    goDown_keeps (((s.advance dt).loseFrame p).port p)
  obtain ⟨ddown, dsilence, dcount, ddemand, dlost⟩ := goDown_writes (((s.advance dt).loseFrame p).port p)
  obtain ⟨halarms, hrecord⟩ := raised_takeLinkDown (s.advance dt) p
  simp only [port_advance] at hmode hloop hactivity hpending hbusy hframe hrecord
  rw [linkDownRaise, hn] at halarms hrecord
  rw [hport]
  refine ⟨ddown, ?_, dsilence, dactivity.trans hactivity, dcount, dmode.trans hmode, dpending.trans hpending,
    dbad.trans hn, ?_, fun f q hf hq => ?_, fun q hq => ?_, fun ht => ⟨dlost (hbusy ht), ?_⟩, fun ht => if_pos ht, ?_, ?_,
    fun hf => ?_, ⟨halarms, by rwa [hport] at hrecord⟩, takeLinkDown_sameBut _ _⟩
  · rw [loopFollowed, dframe, hframe, if_pos rfl]
  · rw [loopFollowed, ddemand, hmode]
  · rw [htransmitter, port_loseFrame_of_some (by simpa using hf)]
    exact if_pos hq
  · rw [htransmitter]
    cases h : (s.port p).frame with
    | none => rw [loseFrame_of_none (by simpa using h), port_advance]
    | some f =>
      rw [port_loseFrame_of_some (by simpa using h), port_advance]
      exact if_neg (hq f h)
  · rw [loopFollowed, dtransmitter, dloop, hloop]
    exact if_neg (hbusy ht)
  · rw [hother, hframe, if_neg (other_ne p)]
  · rw [hother, (loseFrame_keeps (s.advance dt) p p.other).2.1, port_advance]
  · rw [hother, loseFrame_of_none (by simpa using hf), port_advance]

end Sys2Proof.Proofs
end

section
/-! SUPPORT. The start of a frame at a port. -/

namespace Sys2Proof.Laws

open Sys2Proof Sys2Proof.Machine

/-! ## The start of a frame (R54, R55) -/

theorem takesFrame_iff {x : Port} : x.takesFrame = true ↔ x.up = true ∧ x.frame = none ∧ x.awaitingEnd = false := by
  simp [Port.takesFrame, and_assoc]

theorem routeOf_eq (s : State) (p : PortId) :
    s.routeOf p = if (s.port p.other).loop = .isOpen then p.other else p := by
  cases h : (s.port p.other).loop <;> simp [State.routeOf, h]

theorem processes_iff (s : State) (p : PortId) : s.processes p = true ↔ p = .a ∨ s.portA.up = false := by
  cases p <;> simp [State.processes]

/-- The frame that FRAME_START begins: it claims the transmitter it is routed to where that is idle (R54, R55). -/
def startedFrame (s : State) (p : PortId) (head : List Byte) : Frame :=
  Frame.begin head (if (s.port (s.routeOf p)).transmitter = .idle then some (s.routeOf p) else none) (s.processes p)

/-- A port after a frame has begun on `p` (R54). -/
theorem port_frameStart {s : State} {p : PortId} (h : (s.port p).takesFrame = true) (head : List Byte) (q : PortId) :
    (s.frameStart p head).port q =
      { s.port q with
        frame := if q = p then some (startedFrame s p head) else (s.port q).frame
        transmitter :=
          if (s.port q).transmitter = .idle ∧ q = s.routeOf p then .sending p none else (s.port q).transmitter
        sendLost := if (s.port q).transmitter = .idle ∧ q = s.routeOf p then !(s.port q).up else (s.port q).sendLost } := by
  unfold State.frameStart startedFrame
  rw [if_pos h]
  generalize s.routeOf p = r
  by_cases hr : q = r
  · subst hr
    by_cases ht : (s.port q).transmitter = .idle <;> obtain rfl | hq := eq_or_ne q p <;>
      simp [port_modifyPort, Port.claim, *]
  · by_cases ht : (s.port r).transmitter = .idle <;> obtain rfl | hq := eq_or_ne q p <;>
      simp [port_modifyPort, *]

theorem frameStart_sameBut (s : State) (p : PortId) (head : List Byte) :
    sameBut s (s.frameStart p head) [.portA, .portB] := by
  unfold State.frameStart
  dsimp only
  split
  · split
    · exact sameBut_trans (modifyPort_sameBut s _ _) (modifyPort_sameBut _ _ _)
    · exact modifyPort_sameBut s _ _
  · exact sameBut_refl s _

end Sys2Proof.Laws

namespace Sys2Proof.Proofs

open Sys2Proof Sys2Proof.Machine Sys2Proof.Laws

/-- Settles O23: the frame by its route, and the transmitter there by whether it is idle. -/
theorem frameStartRoutes : Obligations.FrameStartRoutes := by
  intro s dt p head hr hup hframe hawait out
  have htakes : ((s.advance dt).port p).takesFrame = true := takesFrame_iff.mpr (by simp [hup, hframe, hawait])
  have hport := port_frameStart htakes head
  have hroute : (s.advance dt).routeOf p = out := by simp [routeOf_eq, out]
  have hprocessed := processes_iff (s.advance dt) p
  refine ⟨_, startedFrame (s.advance dt) p head, exec_frameStart hr dt p head, ?_, rfl, rfl, rfl, rfl, rfl,
    hprocessed, fun hidle => ?_, fun hbusy => ?_, ?_, frameStart_sameBut _ _ _⟩
  · simp [hport]
  · simp [hport, startedFrame, Frame.begin, hroute, hidle]
  · simp [hport, startedFrame, Frame.begin, hroute, hbusy]
  · simp [hport, other_ne]

end Sys2Proof.Proofs
end

section
/-! SUPPORT. The check of an open telegram. -/

namespace Sys2Proof.Laws

open Sys2Proof Sys2Proof.Machine

/-! ## Checks (R47, R48, R76, R189) -/

theorem crc16_append (l : List Byte) (b : Byte) : crc16 (l ++ [b]) = crc16Octet (crc16 l) b := by
  simp [crc16]

theorem crc32_append (l : List Byte) (b : Byte) : crc32 (l ++ [b]) = ~~~ crc32Octet (~~~ crc32 l) b := by
  simp [crc32]

/-- An octet of the CRC-16 is eight bits of it, most significant first (R189). -/
theorem crc16Octet_eq (c : Word16) (b : Byte) :
    crc16Octet c b = (List.range 8).foldl (fun c _ => if c.msb then (c <<< 1) ^^^ 0x1021 else c <<< 1)
      (c ^^^ (b.zeroExtend 16 <<< 8)) := rfl

/-- An octet of the CRC-32 is eight bits of it, least significant first (R47). -/
theorem crc32Octet_eq (c : Word32) (b : Byte) :
    crc32Octet c b = (List.range 8).foldl (fun c _ => if c.getLsbD 0 then (c >>> 1) ^^^ 0xEDB88320 else c >>> 1)
      (c ^^^ b.zeroExtend 32) := rfl

/-- A frame check leaves with its least significant octet first (R47). -/
theorem checkOctets_eq (c : Word32) :
    checkOctets c = [c.extractLsb' 0 8, c.extractLsb' 8 8, c.extractLsb' 16 8, c.extractLsb' 24 8] := by
  have octet (n : Nat) : BitVec.ofNat 8 (c.toNat / 2 ^ n) = c.extractLsb' n 8 := by
    simp [BitVec.extractLsb', Nat.shiftRight_eq_div_pow]
  simp [checkOctets, octets, ← octet]

theorem telegramCheck_of_open {s : State} {p : PortId} {f : Frame} {x : OpenTelegram} (hf : (s.port p).frame = some f)
    (hx : f.telegram = some x) (check : Word16) :
    s.telegramCheck p check = s.setPort p { s.port p with frame := some (f.close x check) } := by
  simp only [State.telegramCheck, hf, hx]
  rfl

/-- The octets of an open telegram join those of its frame. -/
theorem flush_of_open {f : Frame} {x : OpenTelegram} (h : f.telegram = some x) :
    f.flush = { f with received := f.received ++ x.received, sent := f.sent ++ x.sent,
                       inserted := f.inserted || x.inserted, telegram := none } := by
  simp only [Frame.flush, h]

/-- An open telegram closed by a check: its octets and the check join those of the frame, and a good check lets its item
join the pending list (R47, R48, R76). -/
theorem close_eq {f : Frame} {x : OpenTelegram} (h : f.telegram = some x) (check : Word16) :
    f.close x check =
      { f with
        received := f.received ++ x.received ++ octets 2 check.toNat
        sent := f.sent ++ x.sent ++ octets 2 (x.sentCheck check).toNat
        inserted := f.inserted || x.inserted
        items := f.items ++
          if crc16 x.received = check then (x.item (f.received.length + x.received.length + 2)).toList else []
        telegram := none } := by
  simp only [Frame.close, flush_of_open h, List.length_append]

end Sys2Proof.Laws

namespace Sys2Proof.Proofs

open Sys2Proof Sys2Proof.Machine Sys2Proof.Laws

/-- Settles O25: the two checks octet by octet, and then the telegram by whether its check is good. -/
theorem checkDecidesTelegram : Obligations.CheckDecidesTelegram := by
  refine ⟨⟨rfl, fun l b => (crc16_append l b).trans (crc16Octet_eq _ b), by decide,
    fun l b => (crc32_append l b).trans (congrArg _ (crc32Octet_eq _ b)), checkOctets_eq⟩, ?_⟩
  intro s dt p f x check hr hf hx
  refine ⟨_, f.close x check, exec_telegramCheck hr dt p check, ?_⟩
  rw [telegramCheck_of_open (by simpa using hf) hx, close_eq hx]
  refine ⟨by simp, rfl, rfl, fun h => ?_, fun h c hc => ?_, fun h hc => ?_, rfl, fun h => ?_, fun h hg => ?_,
    fun h hb => ?_, by simp, setPort_sameBut _ _ _⟩
  · simp [h]
  · simp [h, hc, OpenTelegram.item]
  · simp [hc, OpenTelegram.item]
  · simp [OpenTelegram.sentCheck, h]
  · simp [OpenTelegram.sentCheck, h, hg]
  · simp [OpenTelegram.sentCheck, h, hb]

end Sys2Proof.Proofs
end

section
/-! SUPPORT. The cut of an oversized frame. -/

namespace Sys2Proof.Laws

open Sys2Proof Sys2Proof.Machine

/-! ## The cut of a frame (R57) -/

theorem frameCut_of_long {s : State} {p : PortId} {f : Frame} {o : List Byte} (hf : (s.port p).frame = some f)
    (h : 1537 ≤ (f.flush.pass o).received.length) : s.frameCut p o = s.cut p (f.flush.pass o) := by
  simp only [State.frameCut, hf]
  exact if_pos h

theorem frameCut_of_short {s : State} {p : PortId} {f : Frame} {o : List Byte} (hf : (s.port p).frame = some f)
    (h : (f.flush.pass o).received.length ≤ 1536) : s.frameCut p o = s.setFrame p (f.flush.pass o) := by
  simp only [State.frameCut, hf]
  exact if_neg (by omega)

/-- A port after the frame `f` received on `p` was cut: it is counted as bad and gone, its end is awaited, and the transmitter
that it has claimed is free (R57, R58). -/
theorem port_cut (s : State) (p q : PortId) (f : Frame) :
    (s.cut p f).port q =
      (let x := if q = p then { (s.port q).countBad with frame := none, awaitingEnd := true } else s.port q
       if f.through = some q then x.idleAfter (badlyEnded (f.sent.take 1536)) else x) := by
  simp only [State.cut, port_raise, port_releaseCut, port_modifyPort]

/-- The cut frame's own port: it takes no frame until the end of that one (R57, R58). -/
theorem port_cut_own (s : State) (p : PortId) (f : Frame) :
    ((s.cut p f).port p).frame = none ∧ ((s.cut p f).port p).awaitingEnd = true
      ∧ ((s.cut p f).port p).badFrames = min ((s.port p).badFrames + 1) 65535
      ∧ ((s.cut p f).port p).reopenCount = 0 := by
  rw [port_cut, if_pos rfl]
  dsimp only
  split <;> exact ⟨rfl, rfl, rfl, rfl⟩

/-- The transmitter that a cut frame has claimed is free (R57). -/
theorem port_cut_claimed {f : Frame} {q : PortId} (h : f.through = some q) (s : State) (p : PortId) :
    ((s.cut p f).port q).transmitter = .idle
      ∧ ((s.cut p f).port q).lastSent =
          if (s.port q).sendLost then (s.port q).lastSent else badlyEnded (f.sent.take 1536) := by
  rw [port_cut]
  dsimp only
  rw [if_pos h]
  split <;> exact ⟨rfl, rfl⟩

/-- The raise of a frame that is cut (R57). -/
def jabberRaise (s : State) (p : PortId) : Raise :=
  { kind := .jabber, target := .port p, capture := s.capture, body := .portJabber p }

theorem cut_ports (s : State) (p : PortId) (f : Frame) :
    ∃ u, sameBut s u [.portA, .portB] ∧ s.cut p f = u.raise (jabberRaise s p) :=
  ⟨_, sameBut_trans (modifyPort_sameBut s p _) (releaseCut_sameBut _ _ _), rfl⟩

theorem raised_cut (s : State) (p : PortId) (f : Frame) : raised s (s.cut p f) (jabberRaise s p) := by
  obtain ⟨u, hu, hc⟩ := cut_ports s p f
  obtain ⟨hrecord, halarms, -⟩ := raise_congr (portsOnly_sameForRecord hu) (jabberRaise s p)
  rw [hc]
  exact ⟨hrecord, halarms⟩

theorem cut_sameBut (s : State) (p : PortId) (f : Frame) :
    sameBut s (s.cut p f) [.portA, .portB, .record, .alarms] := by
  obtain ⟨u, hu, hc⟩ := cut_ports s p f
  rw [hc]
  exact sameBut_trans (sameBut_mono hu (by decide)) (sameBut_mono (raise_sameBut _ rfl) (by decide))

/-! ## The end of a frame (R47, R48, R58, R77) -/

theorem frameEnd_of_none {s : State} {p : PortId} (hf : (s.port p).frame = none) (o : List Byte) :
    s.frameEnd p o = s.setPort p { s.port p with awaitingEnd := false } := by
  unfold State.frameEnd
  rw [hf]
  rfl

theorem frameEnd_of_long {s : State} {p : PortId} {f : Frame} {o : List Byte} (hf : (s.port p).frame = some f)
    (h : 1537 ≤ (f.flush.pass o).received.length) :
    s.frameEnd p o = (s.cut p (f.flush.pass o)).setPort p
      { (s.cut p (f.flush.pass o)).port p with awaitingEnd := false } := by
  simp only [State.frameEnd, hf]
  exact if_pos h

theorem frameEnd_of_short {s : State} {p : PortId} {f : Frame} {o : List Byte} (hf : (s.port p).frame = some f)
    (h : (f.flush.pass o).received.length ≤ 1536) : s.frameEnd p o = s.endFrame p (f.flush.pass o) := by
  simp only [State.frameEnd, hf]
  exact if_neg (by omega)

/-- The state once a frame that has come to its end is gone, its octets with the transmitter that it has claimed (R54). -/
def frameLeft (s : State) (p : PortId) (f : Frame) : State :=
  (s.modifyPort p (fun x => { x with frame := none })).finishSending p f f.sentWhole

theorem port_frameLeft (s : State) (p q : PortId) (f : Frame) :
    (frameLeft s p f).port q =
      { s.port q with
        frame := if q = p then none else (s.port q).frame
        transmitter := if f.through = some q then .sending p (some f.sentWhole) else (s.port q).transmitter } := by
  unfold frameLeft
  rw [port_finishSending, port_modifyPort]
  obtain rfl | hq := eq_or_ne q p
  · by_cases ht : f.through = some q <;> simp [ht]
  · by_cases ht : f.through = some q <;> simp [ht, hq]

theorem frameLeft_sameBut (s : State) (p : PortId) (f : Frame) : sameBut s (frameLeft s p f) [.portA, .portB] :=
  sameBut_trans (modifyPort_sameBut s p _) (finishSending_sameBut _ _ _ _)

theorem endsGood_iff {f : Frame} :
    f.endsGood = true ↔ f.checkGood = true ∧ 64 ≤ f.received.length ∧ f.received.length ≤ 1536 := by
  simp [Frame.endsGood, and_assoc]

/-- A bad frame is counted, and nothing of it takes effect (R58). -/
theorem endFrame_of_bad {s : State} {p : PortId} {f : Frame} (h : f.checkGood = false ∨ f.received.length < 64) :
    s.endFrame p f = (frameLeft s p f).modifyPort p Port.countBad := by
  have hbad : ¬ f.endsGood = true := by
    rw [endsGood_iff]
    rintro ⟨hc, hl, -⟩
    obtain h | h := h
    · simp [h] at hc
    · omega
  exact if_neg hbad

/-- A good frame of another type leaves and does nothing else (R77). -/
theorem endFrame_of_other {s : State} {p : PortId} {f : Frame} (h : f.endsGood = true) (hr : f.isRing = false) :
    s.endFrame p f = frameLeft s p f := by
  simp only [State.endFrame, h, hr]
  rfl

/-- A valid ring frame leaves and is committed (R77, R78). -/
theorem endFrame_of_ring {s : State} {p : PortId} {f : Frame} (h : f.endsGood = true) (hr : f.isRing = true) :
    s.endFrame p f = (frameLeft s p f).commit p f := by
  simp only [State.endFrame, h, hr]
  rfl

/-- A bad frame's copy ends in a bad check where octets were inserted or the check received was good (R48, R58). -/
theorem sentWhole_of_bad {f : Frame} (h : f.checkGood = false ∨ f.received.length < 64) :
    f.sentWhole = if f.inserted = true ∨ f.checkGood = true then badlyEnded (f.sent.take (f.sent.length - 4)) else f.sent := by
  unfold Frame.sentWhole
  obtain h | h := h <;> simp [h]

/-- A good frame's copy leaves with a check made good where octets were inserted (R48). -/
theorem sentWhole_of_good {f : Frame} (h : f.checkGood = true) (hl : 64 ≤ f.received.length) :
    f.sentWhole = if f.inserted = true then
        f.sent.take (f.sent.length - 4) ++ checkOctets (crc32 (f.sent.take (f.sent.length - 4)))
      else f.sent := by
  unfold Frame.sentWhole
  simp [h, Nat.not_lt.mpr hl]

theorem through_flush_pass (f : Frame) (o : List Byte) : (f.flush.pass o).through = f.through := by
  unfold Frame.flush Frame.pass
  split <;> rfl

theorem processed_flush_pass (f : Frame) (o : List Byte) : (f.flush.pass o).processed = f.processed := by
  unfold Frame.flush Frame.pass
  split <;> rfl

end Sys2Proof.Laws

namespace Sys2Proof.Proofs

open Sys2Proof Sys2Proof.Machine Sys2Proof.Laws

/-- Settles O26: the frame that is cut, and the frame that ends by what its check, its length and its type are. -/
theorem cutAndBadFramesAreDiscarded : Obligations.CutAndBadFramesAreDiscarded := by
  refine ⟨fun f => ⟨decide_eq_true_iff, decide_eq_true_iff, fun o => ?_⟩, fun s dt p o hr hf => ?_, ?_⟩
  · unfold Frame.flush Frame.pass
    split <;> simp [*]
  · rw [exec_frameEnd hr, frameEnd_of_none (by simpa using hf), port_advance]
  intro s dt p f o hr hf
  have hf' : ((s.advance dt).port p).frame = some f := by simpa using hf
  have hthrough := through_flush_pass f o
  refine ⟨fun hl => ⟨_, exec_frameCut hr dt p o, ?_⟩, fun hl => ?_, fun hl hbad => ⟨_, exec_frameEnd hr dt p o, ?_⟩, ?_⟩
  · rw [exec_frameEnd hr, frameEnd_of_long hf' hl, frameCut_of_long hf' hl]
    obtain ⟨hgone, hawait, hbad, hcount⟩ := port_cut_own (s.advance dt) p (f.flush.pass o)
    refine ⟨rfl, hgone, hawait, by simpa using hbad, hcount, fun q hq => ?_, raised_cut _ _ _, cut_sameBut _ _ _⟩
    simpa [badlyEnded] using port_cut_claimed (hthrough.trans hq) (s.advance dt) p
  · rw [exec_frameCut hr, frameCut_of_short hf' hl, setFrame_eq, port_advance]
  · rw [frameEnd_of_short hf' hl, endFrame_of_bad hbad]
    have hsent := sentWhole_of_bad hbad
    refine ⟨?_, ?_, ?_, fun q hq => ?_, ?_, ?_, sameBut_trans (frameLeft_sameBut _ _ _) (modifyPort_sameBut _ _ _)⟩
    · simp [port_frameLeft, Port.countBad]
    · simp [port_frameLeft, Port.countBad]
    · simp [port_frameLeft, Port.countBad]
    · have hkeeps : ∀ x : Port, x.countBad.transmitter = x.transmitter := fun x => rfl
      rw [port_modifyPort]
      split <;> simp [port_frameLeft, hkeeps, hthrough, hq, hsent, badlyEnded]
    · simp [port_frameLeft, Port.countBad]
    · simp [port_frameLeft, Port.countBad]
  · intro g sent hring hgood hlo hhi
    refine ⟨_, exec_frameEnd hr dt p o, ?_⟩
    rw [frameEnd_of_short hf' hhi, endFrame_of_other (endsGood_iff.mpr ⟨hgood, hlo, hhi⟩) (decide_eq_false hring)]
    refine ⟨fun q => ?_, frameLeft_sameBut _ _ _⟩
    rw [port_frameLeft, hthrough, port_advance, sentWhole_of_good hgood hlo]

end Sys2Proof.Proofs
end

section
/-! SUPPORT. The silence of a port, and the octet that ends a transmission. -/

namespace Sys2Proof.Laws

open Sys2Proof Sys2Proof.Machine

/-! ## The silence of a port and its last octet (R54, R56) -/

theorem portSilence_of_reached {s : State} {p : PortId} {d : Nat} (hd : (s.port p).silenceDeadline = some d)
    (h : d ≤ s.time.elapsed) :
    s.portSilence p = (s.modifyPort p (fun x => { x with activity := .silent, silenceDeadline := none })).raise
      { kind := .portSilent, target := .port p, capture := s.capture,
        body := .portSilent p (s.port p).silenceLimit } := by
  have hreached : s.reached (s.port p).silenceDeadline = true := by simp [State.reached, hd, h]
  exact if_pos hreached

theorem lastOctetLeft_of_complete {s : State} {p q : PortId} {o : List Byte}
    (h : (s.port p).transmitter = .sending q (some o)) : s.lastOctetLeft p = s.modifyPort p (fun x => x.idleAfter o) := by
  unfold State.lastOctetLeft
  rw [h]

/-! ## What a commit does to the ports (R59, R78) -/

/-- What SET RING PORT leaves of a port: all but its loop, its reopening, its silence limit and the instant of its silence
deadline (R59). -/
def retuned (x y : Port) : Prop :=
  y.up = x.up ∧ y.reported = x.reported ∧ y.activity = x.activity ∧ y.badFrames = x.badFrames ∧ y.frame = x.frame
    ∧ y.awaitingEnd = x.awaitingEnd ∧ y.transmitter = x.transmitter ∧ y.sendLost = x.sendLost
    ∧ y.silenceDeadline.isSome = x.silenceDeadline.isSome ∧ y.reopenCount ≤ x.reopenCount

theorem retuned_refl (x : Port) : retuned x x := ⟨rfl, rfl, rfl, rfl, rfl, rfl, rfl, rfl, rfl, le_refl _⟩

theorem retuned_trans {x y z : Port} (h : retuned x y) (k : retuned y z) : retuned x z := by
  obtain ⟨h1, h2, h3, h4, h5, h6, h7, h8, h9, h10⟩ := h
  obtain ⟨k1, k2, k3, k4, k5, k6, k7, k8, k9, k10⟩ := k
  exact ⟨k1.trans h1, k2.trans h2, k3.trans h3, k4.trans h4, k5.trans h5, k6.trans h6, k7.trans h7, k8.trans h8,
    k9.trans h9, k10.trans h10⟩

theorem retuned_takeMode (x : Port) (m : LoopMode) : retuned x (x.takeMode m) := by
  cases m with
  | autoClose => exact ⟨rfl, rfl, rfl, rfl, rfl, rfl, rfl, rfl, rfl, le_refl _⟩
  | _ =>
    refine ⟨rfl, rfl, rfl, rfl, rfl, rfl, rfl, rfl, rfl, ?_⟩
    simp only [Port.takeMode]
    split
    · exact le_refl _
    · exact Nat.zero_le _

theorem retuned_evalDemand (x : Port) : retuned x x.evalDemand := retuned_refl x

theorem retuned_takeLimit (x : Port) (n now : Nat) : retuned x (x.takeLimit n now) :=
  ⟨rfl, rfl, rfl, rfl, rfl, rfl, rfl, rfl, Option.isSome_map, le_refl _⟩

theorem retuned_loopFollowed (x : Port) : retuned x (loopFollowed x) := retuned_refl x

/-- Two states whose ports differ in their settings alone. -/
def portsRetuned (s t : State) : Prop := ∀ p, retuned (s.port p) (t.port p)

theorem portsRetuned_of_eq {s t : State} (h : t.portA = s.portA ∧ t.portB = s.portB) : portsRetuned s t := by
  intro p
  rw [port_congr h]
  exact retuned_refl _

theorem portsRetuned_trans {s t u : State} (h : portsRetuned s t) (k : portsRetuned t u) : portsRetuned s u :=
  fun p => retuned_trans (h p) (k p)

theorem applyLoop_retunes (s : State) (p : PortId) : portsRetuned s (s.applyLoop p) := by
  intro q
  obtain rfl | hq := eq_or_ne q p
  · rw [port_applyLoop_same]
    exact retuned_loopFollowed _
  · rw [eq_other_of_ne hq, port_applyLoop_other]
    exact retuned_refl _

theorem modifyPort_retunes (s : State) (p : PortId) {f : Port → Port} (h : retuned (s.port p) (f (s.port p))) :
    portsRetuned s (s.modifyPort p f) := by
  intro q
  rw [port_modifyPort]
  split
  · next hq => rwa [hq]
  · exact retuned_refl _

theorem setRingPort_retunes (s : State) (p m l : Nat) : portsRetuned s (s.setRingPort p m l) := by
  unfold State.setRingPort
  split
  · next k m _ _ =>
    exact portsRetuned_trans
      (modifyPort_retunes s k (retuned_trans (retuned_takeMode _ m)
        (retuned_trans (retuned_evalDemand _) (retuned_takeLimit _ _ _))))
      (applyLoop_retunes _ k)
  · exact portsRetuned_of_eq ⟨rfl, rfl⟩

theorem effect_retunes (s : State) (r : Request) : portsRetuned s (s.effect r) := by
  by_cases h : ∃ p m l, r = .setRingPort p m l
  · obtain ⟨p, m, l, rfl⟩ := h
    exact setRingPort_retunes s p m l
  · exact portsRetuned_of_eq (effect_ports s fun p m l hr => h ⟨p, m, l, hr⟩)

theorem commitService_retunes (s : State) (c : Byte) (q : Option Request) (r : Result) (x : Option Reason) (j n : Nat) :
    portsRetuned s (s.commitService c q r x j n) := by
  have hindicate : portsRetuned s (s.indicate c r x) := by
    refine portsRetuned_of_eq ?_
    unfold State.indicate
    split
    · simp
    · split
      · simp
      · split <;> simp
  have happly : ∀ (u : State) (k : Request), portsRetuned u (u.applyRequest k) := by
    intro u k
    unfold State.applyRequest
    split
    · exact effect_retunes u k
    · exact portsRetuned_of_eq ⟨rfl, rfl⟩
  unfold State.commitService
  dsimp only
  split
  · split
    · exact portsRetuned_trans hindicate (happly _ _)
    · exact hindicate
  · exact hindicate

/-- An item at its commit changes no more of a port than its settings (R78). -/
theorem commitItem_retunes (p : PortId) (processed : Bool) (since : Nat) (s : State) (i : Item) :
    portsRetuned s (State.commitItem p processed since s i) := by
  unfold State.commitItem
  split
  · exact portsRetuned_of_eq (by simp)
  · split
    · exact portsRetuned_of_eq (by simp)
    · exact portsRetuned_of_eq ⟨rfl, rfl⟩
  · exact commitService_retunes s _ _ _ _ _ _

/-- The items of a frame that stand at its end, applied in their order (R77, R78). -/
def itemsCommitted (s : State) (p : PortId) (f : Frame) : State :=
  f.standing.foldl (State.commitItem p f.processed s.checker.loads) s

theorem itemsCommitted_retunes (s : State) (p : PortId) (f : Frame) : portsRetuned s (itemsCommitted s p f) := by
  unfold itemsCommitted
  generalize s.checker.loads = n
  induction f.standing generalizing s with
  | nil => exact portsRetuned_of_eq ⟨rfl, rfl⟩
  | cons i l ih => exact portsRetuned_trans (commitItem_retunes p f.processed n s i) (ih _)

/-! ## The port's own steps at a commit (R52, R53, R56; log 15) -/

theorem commit_eq (s : State) (p : PortId) (f : Frame) :
    s.commit p f = (((itemsCommitted s p f).modifyPort p Port.countValid).renewSilence p).applyLoop p := rfl

/-- A port once its silence is renewed (R56). -/
def silenceRenewed (x : Port) (now : Nat) : Port :=
  { x with activity := .active, silenceDeadline := some (now + x.silenceLimit * 1000) }

@[simp] theorem port_renewSilence_same (s : State) (p : PortId) :
    (s.renewSilence p).port p = silenceRenewed (s.port p) s.time.elapsed := by
  unfold State.renewSilence
  dsimp only
  split <;> simp [silenceRenewed]

@[simp] theorem port_renewSilence_other (s : State) (p : PortId) :
    (s.renewSilence p).port p.other = s.port p.other := by
  unfold State.renewSilence
  dsimp only
  split <;> simp

theorem sameForRecord_trans {s t u : State} (h : sameForRecord s t) (k : sameForRecord t u) : sameForRecord s u := by
  obtain ⟨h1, h2, h3, h4, h5, h6, h7⟩ := h
  obtain ⟨k1, k2, k3, k4, k5, k6, k7⟩ := k
  exact ⟨k1.trans h1, k2.trans h2, k3.trans h3, k4.trans h4, k5.trans h5, k6.trans h6, k7.trans h7⟩

/-- A renewal forms the ACTIVE entry of a port that was SILENT (R56). -/
theorem renewSilence_sameForRecord (s : State) (p : PortId) :
    sameForRecord (if (s.port p).activity = .silent then s.note s.capture (.portActive p) else s)
      (s.renewSilence p) := by
  have hset : ∀ x, sameForRecord s (s.setPort p x) := fun x => portsOnly_sameForRecord (setPort_sameBut s p x)
  unfold State.renewSilence
  dsimp only
  cases h : (s.port p).activity with
  | silent =>
    rw [capture_congr (hset _)]
    exact note_congr (hset _) _ _ _
  | active => exact hset _

theorem renewSilence_sameBut (s : State) (p : PortId) :
    sameBut s (s.renewSilence p) [.portA, .portB, .record] := by
  intro b hb
  cases b <;> simp_all [Block.same]

/-- The reopening that a valid frame advances leaves the loop, the silence, the frame and the transmitter (R52). -/
theorem countValid_keeps (x : Port) :
    x.countValid.mode = x.mode ∧ x.countValid.loop = x.loop ∧ x.countValid.activity = x.activity
      ∧ x.countValid.silenceLimit = x.silenceLimit ∧ x.countValid.transmitter = x.transmitter
      ∧ x.countValid.frame = x.frame ∧ x.countValid.up = x.up := by
  unfold Port.countValid
  split
  · split <;> exact ⟨rfl, rfl, rfl, rfl, rfl, rfl, rfl⟩
  · exact ⟨rfl, rfl, rfl, rfl, rfl, rfl, rfl⟩

/-- The third valid frame since link up opens the loop in AUTO_CLOSE (R51, R52). -/
theorem countValid_eq (x : Port) :
    x.countValid =
      if x.mode = .autoClose ∧ x.reopenPending = true ∧ x.up = true then
        if 3 ≤ x.reopenCount + 1 then { x with reopenPending := false, reopenCount := 0, demand := .isOpen }
        else { x with reopenCount := x.reopenCount + 1 }
      else x := by
  unfold Port.countValid
  split
  · next h =>
    obtain ⟨hm, -, hu⟩ := h
    simp [Port.evalDemand, Port.demandNow, hm, hu]
  · rfl

/-- The steps of the port itself that follow the items of a valid frame (log 15). -/
def portSteps (s : State) (p : PortId) : State := ((s.modifyPort p Port.countValid).renewSilence p).applyLoop p

/-- The port once it has counted the frame and renewed its silence, its loop not yet followed (R52, R56). -/
def portCounted (s : State) (p : PortId) : Port := silenceRenewed (s.port p).countValid s.time.elapsed

/-- The state whose record holds the ACTIVE entry that a valid frame forms on a SILENT port (R56). -/
def activeNoted (s : State) (p : PortId) : State :=
  if (s.port p).activity = .silent then s.note s.capture (.portActive p) else s

theorem port_portSteps_same (s : State) (p : PortId) : (portSteps s p).port p = loopFollowed (portCounted s p) := by
  simp [portSteps, portCounted]

theorem port_portSteps_other (s : State) (p : PortId) : (portSteps s p).port p.other = s.port p.other := by
  simp [portSteps]

theorem portSteps_sameBut (s : State) (p : PortId) : sameBut s (portSteps s p) [.portA, .portB, .record] :=
  sameBut_trans (sameBut_mono (modifyPort_sameBut s p _) (by decide))
    (sameBut_trans (renewSilence_sameBut _ p) (applyLoop_sameBut _ p))

theorem activeNoted_sameForRecord (s : State) (p : PortId) :
    sameForRecord (activeNoted s p) ((s.modifyPort p Port.countValid).renewSilence p) := by
  have hcount := modifyPort_sameForRecord s p Port.countValid
  have hrenew := renewSilence_sameForRecord (s.modifyPort p Port.countValid) p
  rw [port_modifyPort_same, (countValid_keeps _).2.2.1] at hrenew
  unfold activeNoted
  split
  · next h =>
    rw [if_pos h, capture_congr hcount] at hrenew
    exact sameForRecord_trans (note_congr hcount _ _ _) hrenew
  · next h =>
    rw [if_neg h] at hrenew
    exact sameForRecord_trans hcount hrenew

/-- The ACTIVE entry, and then that of the loop where it changes (R53, R56). -/
theorem record_portSteps (s : State) (p : PortId) :
    (portSteps s p).record =
      if (loopFollowed (portCounted s p)).loop = (portCounted s p).loop then (activeNoted s p).record
      else ((activeNoted s p).note s.capture
        (.portLoop p (loopFollowed (portCounted s p)).loop (portCounted s p).mode)).record := by
  have hs := activeNoted_sameForRecord s p
  have hc : ((s.modifyPort p Port.countValid).renewSilence p).capture = s.capture := capture_eq (by simp)
  unfold portSteps
  rw [record_applyLoop, port_renewSilence_same, hc, hs.1, record_note_congr hs, port_modifyPort_same,
    (modifyPort_frame s p _).2.1]
  rfl

theorem loopFollowed_of_follows {x : Port} (h : x.transmitter = .idle) : loopFollowed x = { x with loop := x.demand } := by
  rw [loopFollowed, if_pos h]

end Sys2Proof.Laws

namespace Sys2Proof.Proofs

open Sys2Proof Sys2Proof.Machine Sys2Proof.Laws

/-- Settles O28: what the frame leaves, its items in order, and then the port's own steps. -/
theorem validFrameCommits : Obligations.ValidFrameCommits := by
  refine ⟨fun s p processed since i k a n b hi => by simp only [State.commitItem, hi], ?_⟩
  intro s dt p f o hr hf g sent hring hgood hlo hhi
  have hf' : ((s.advance dt).port p).frame = some f := by simpa using hf
  have hthrough : g.through = f.through := through_flush_pass f o
  have hend : (s.advance dt).frameEnd p o = portSteps (itemsCommitted (frameLeft (s.advance dt) p g) p g) p := by
    rw [frameEnd_of_short hf' hhi, endFrame_of_ring (endsGood_iff.mpr ⟨hgood, hlo, hhi⟩) hring, commit_eq, portSteps]
  refine ⟨_, frameLeft (s.advance dt) p g, exec_frameEnd hr dt p o, frameLeft_sameBut _ _ _, fun q => ?_, ?_, ?_⟩
  · rw [port_frameLeft, hthrough, port_advance, sentWhole_of_good hgood hlo]
  · intro u x y z v follows
    have hu : itemsCommitted (frameLeft (s.advance dt) p g) p g = u := by
      have hprocessed : g.processed = f.processed := processed_flush_pass f o
      have hloads : (frameLeft (s.advance dt) p g).checker = s.checker :=
        frameLeft_sameBut (s.advance dt) p g .checker (by decide)
      rw [itemsCommitted, hprocessed, hloads]
      rfl
    have hz : portCounted u p = z := by
      have hy : (u.port p).countValid = y := countValid_eq x
      have hlimit : y.silenceLimit = x.silenceLimit := hy ▸ (countValid_keeps x).2.2.2.1
      simp only [portCounted, hy, silenceRenewed, hlimit, z]
    have hv : activeNoted u p = v := rfl
    rw [hend, hu]
    have hport := port_portSteps_same u p
    have hrecord := record_portSteps u p
    rw [hz] at hport
    rw [hz, hv] at hrecord
    refine ⟨portSteps_sameBut u p, port_portSteps_other u p, fun hfollows => ?_, fun hstays => ?_⟩
    · obtain ⟨hdemand, hidle⟩ := hfollows
      rw [loopFollowed_of_follows hidle] at hport hrecord
      exact ⟨hport, hrecord.trans (if_neg hdemand)⟩
    · rw [loopFollowed_of_stays hstays] at hport hrecord
      exact ⟨hport, hrecord.trans (if_pos rfl)⟩
  · rw [hend, port_portSteps_same]
    have hretuned := itemsCommitted_retunes (frameLeft (s.advance dt) p g) p g p
    obtain ⟨-, -, -, -, hframe, -⟩ := hretuned
    rw [port_frameLeft] at hframe
    simpa [loopFollowed, portCounted, silenceRenewed, countValid_keeps] using hframe

/-- Settles O29, row by row. -/
theorem loopSilenceAndLastOctet : Obligations.LoopSilenceAndLastOctet := by
  intro s dt p hr
  refine ⟨fun hd ht => ⟨_, exec_loopStateChange hr dt p, ?_⟩, fun ht => ?_, fun d hd hle =>
    ⟨_, exec_portSilenceDeadline hr dt p, ?_⟩, fun q o hq => ⟨_, exec_lastOctetLeft hr dt p, ?_⟩⟩
  · have hfollows := applyLoop_of_follows (s := s.advance dt) (p := p) (by simpa using hd) (by simpa using ht)
    refine ⟨by simp [loopFollowed, ht], by simp, ?_, applyLoop_sameBut _ _⟩
    rw [noted, hfollows, port_advance]
    exact record_note_congr (portsOnly_sameForRecord (setPort_sameBut _ _ _)) _ _ _
  · rw [exec_loopStateChange hr, applyLoop_of_stays fun h => ht (by simpa using h.2)]
  · rw [portSilence_of_reached (by simpa using hd) hle, port_advance]
    obtain ⟨hrecord, halarms, -⟩ := raise_congr (modifyPort_sameForRecord (s.advance dt) p
      (fun x => { x with activity := .silent, silenceDeadline := none }))
      { kind := .portSilent, target := .port p, capture := (s.advance dt).capture,
        body := .portSilent p (s.port p).silenceLimit }
    exact ⟨by simp, by simp, ⟨hrecord, halarms⟩,
      sameBut_trans (sameBut_mono (modifyPort_sameBut _ _ _) (by decide)) (sameBut_mono (raise_sameBut _ rfl) (by decide))⟩
  · rw [lastOctetLeft_of_complete (by simpa using hq)]
    exact ⟨by simp [Port.idleAfter], by simp, modifyPort_sameBut _ _ _⟩

end Sys2Proof.Proofs
end

section
/-! SUPPORT. What holds of both ports at every step, operation by operation. -/

namespace Sys2Proof.Laws

open Sys2Proof Sys2Proof.Machine

/-! ## The ports in order: what a change of them must keep (R49, R50, R54, R56, R60, R76) -/

/-- What a frame in flight may hold: one item for a telegram that it parsed, of the at most 64 (R44, R76). -/
def frameFits (f : Frame) : Prop := f.items.length + f.telegram.toList.length ≤ f.parsed ∧ f.parsed ≤ 64

theorem portOk_iff {x : Port} :
    x.Ok ↔ (x.silenceDeadline.isSome = true ↔ x.up = true ∧ x.activity = .active) ∧ x.reopenCount ≤ 2
      ∧ x.badFrames ≤ 65535 ∧ (x.frame.isSome = true → x.up = true ∧ x.awaitingEnd = false)
      ∧ (x.transmitter = .idle → x.sendLost = false) ∧ (x.up = false → x.transmitter ≠ .idle → x.sendLost = true)
      ∧ (x.reported = false → x.up = false ∧ x.activity = .active) ∧ ∀ f, x.frame = some f → frameFits f := Iff.rfl

theorem portsOk_iff {s : State} : s.PortsOk ↔ (∀ p, (s.port p).Ok) ∧ s.ClaimsOk := by
  constructor
  · rintro ⟨ha, hb, hc⟩
    refine ⟨fun p => ?_, hc⟩
    cases p
    · exact ha
    · exact hb
  · rintro ⟨hp, hc⟩
    exact ⟨hp .a, hp .b, hc⟩

/-- A port that an order-keeping change leaves in order: link, silence, counts and frame as they were, but for a loop, a
reopening count that does not rise and an instant of the deadline. -/
theorem portOk_of_retuned {x y : Port} (h : retuned x y) (k : x.Ok) : y.Ok := by
  obtain ⟨hup, hreported, hactivity, hbad, hframe, hawait, htransmitter, hlost, hdeadline, hcount⟩ := h
  obtain ⟨k1, k2, k3, k4, k5, k6, k7, k8⟩ := portOk_iff.mp k
  refine portOk_iff.mpr ⟨?_, hcount.trans k2, by rwa [hbad], ?_, ?_, ?_, ?_, ?_⟩
  · rwa [hdeadline, hup, hactivity]
  · rwa [hframe, hup, hawait]
  · rwa [htransmitter, hlost]
  · rwa [hup, htransmitter, hlost]
  · rwa [hreported, hup, hactivity]
  · rwa [hframe]

/-- Claims stay in order where no frame and no transmitter changes. -/
theorem claimsOk_congr {s t : State} (hf : ∀ p, (t.port p).frame = (s.port p).frame)
    (ht : ∀ p, (t.port p).transmitter = (s.port p).transmitter) (h : s.ClaimsOk) : t.ClaimsOk := by
  intro p q f hp hq
  rw [ht]
  exact h p q f (by rwa [← hf]) hq

/-- The port of a claimed transmitter sends the frame of one port alone (R54). -/
theorem claimed_by_one {s : State} (h : s.ClaimsOk) {p r q : PortId} {f g : Frame} (hp : (s.port p).frame = some f)
    (hf : f.through = some q) (hr : (s.port r).frame = some g) (hg : g.through = some q) : r = p := by
  have hsame := (h r q g hr hg).symm.trans (h p q f hp hf)
  injection hsame

theorem portsOk_of_retuned {s t : State} (h : portsRetuned s t) (k : s.PortsOk) : t.PortsOk := by
  obtain ⟨hp, hc⟩ := portsOk_iff.mp k
  refine portsOk_iff.mpr ⟨fun p => portOk_of_retuned (h p) (hp p), claimsOk_congr (fun p => ?_) (fun p => ?_) hc⟩
  · obtain ⟨-, -, -, -, hframe, -⟩ := h p
    exact hframe
  · obtain ⟨-, -, -, -, -, -, htransmitter, -⟩ := h p
    exact htransmitter

/-- What leaves both ports leaves them in order. -/
theorem portsOk_of_ports {s t : State} (h : t.portA = s.portA ∧ t.portB = s.portB) (k : s.PortsOk) : t.PortsOk :=
  portsOk_of_retuned (portsRetuned_of_eq h) k

theorem raise_portsOk {s : State} (h : s.PortsOk) (r : Raise) : (s.raise r).PortsOk := portsOk_of_ports (by simp) h

theorem note_portsOk {s : State} (h : s.PortsOk) (c : Capture) (b : EntryBody) (a : Bool) : (s.note c b a).PortsOk :=
  portsOk_of_ports (by simp) h

theorem applyLoop_portsOk {s : State} (h : s.PortsOk) (p : PortId) : (s.applyLoop p).PortsOk :=
  portsOk_of_retuned (applyLoop_retunes s p) h

/-- A change of one port alone that keeps its frame and its transmitter. -/
theorem modifyPort_portsOk {s : State} (h : s.PortsOk) {p : PortId} {f : Port → Port} (hok : (f (s.port p)).Ok)
    (hf : (f (s.port p)).frame = (s.port p).frame) (ht : (f (s.port p)).transmitter = (s.port p).transmitter) :
    (s.modifyPort p f).PortsOk := by
  obtain ⟨hp, hc⟩ := portsOk_iff.mp h
  refine portsOk_iff.mpr ⟨fun q => ?_, claimsOk_congr (fun q => ?_) (fun q => ?_) hc⟩
  all_goals rw [port_modifyPort]
  · split
    · next hq => rwa [hq]
    · exact hp q
  · split
    · next hq => rwa [hq]
    · rfl
  · split
    · next hq => rwa [hq]
    · rfl

theorem modifyPort_ok {s : State} (h : ∀ q, (s.port q).Ok) {p : PortId} {f : Port → Port} (hok : (f (s.port p)).Ok)
    (q : PortId) : ((s.modifyPort p f).port q).Ok := by
  rw [port_modifyPort]
  split
  · next hq => rwa [hq]
  · exact h q

/-! ## Link reports keep the ports in order -/

theorem firstReport_ok {x : Port} (h : x.Ok) (hr : x.reported = false) (up : Bool) (now : Nat) :
    (x.firstReport up now).Ok := by
  obtain ⟨-, k2, k3, k4, k5, k6, k7, k8⟩ := portOk_iff.mp h
  obtain ⟨hdown, hactive⟩ := k7 hr
  have hnone : x.frame = none := by simpa [hdown] using k4
  refine portOk_iff.mpr ⟨?_, k2, k3, ?_, k5, fun _ => k6 hdown, ?_, k8⟩
  · cases up <;> simp [Port.firstReport, Port.evalDemand, hactive]
  · simp [Port.firstReport, Port.evalDemand, hnone]
  · simp [Port.firstReport, Port.evalDemand]

theorem firstReport_portsOk {s : State} (h : s.PortsOk) (p : PortId) (up : Bool) : (s.firstReport p up).PortsOk := by
  unfold State.firstReport
  split
  · exact h
  · next hr =>
    exact modifyPort_portsOk h (firstReport_ok ((portsOk_iff.mp h).1 p) (by simpa using hr) up _) rfl rfl

theorem goUp_ok {x : Port} (h : x.Ok) (hdown : x.up = false) (now : Nat) : (x.goUp now).Ok := by
  obtain ⟨-, k2, k3, k4, k5, k6, k7, k8⟩ := portOk_iff.mp h
  have hnone : x.frame = none := by simpa [hdown] using k4
  refine portOk_iff.mpr ⟨by simp [Port.goUp, Port.evalDemand], ?_, k3, ?_, k5, ?_, ?_, k8⟩
  · simp only [Port.goUp, Port.evalDemand]
    split
    · exact Nat.zero_le _
    · exact k2
  · simp [Port.goUp, Port.evalDemand, hnone]
  · simp [Port.goUp, Port.evalDemand]
  · simp [Port.goUp, Port.evalDemand]

theorem linkUp_portsOk {s : State} (h : s.PortsOk) (p : PortId) : (s.linkUp p).PortsOk := by
  unfold State.linkUp
  split
  · exact firstReport_portsOk h p true
  · split
    · exact h
    · next hup =>
      have hok := goUp_ok ((portsOk_iff.mp h).1 p) (by simpa using hup) s.time.elapsed
      exact applyLoop_portsOk (note_portsOk (modifyPort_portsOk h hok rfl rfl) _ _ _) p

theorem goDown_ok {x : Port} (h : x.Ok) (hf : x.frame = none) : x.goDown.Ok := by
  obtain ⟨-, -, k3, -, k5, -, -, -⟩ := portOk_iff.mp h
  obtain ⟨-, -, hactivity, hframe, hbad, -, htransmitter⟩ := goDown_keeps x
  obtain ⟨hdown, hsilence, hcount, -, hlost⟩ := goDown_writes x
  have hreported : x.goDown.reported = true := rfl
  have hidle : x.transmitter = .idle → x.goDown.sendLost = false := by
    intro ht
    simpa [Port.goDown, Port.loseSent, Port.evalDemand, ht] using k5 ht
  refine portOk_iff.mpr ⟨by simp [hsilence, hdown], by omega, by rwa [hbad], by simp [hframe, hf], ?_, ?_, ?_, ?_⟩
  · rwa [htransmitter]
  · rw [htransmitter]
    exact fun _ => hlost
  · simp [hreported]
  · simp [hframe, hf]

theorem countBad_ok {x : Port} (h : x.Ok) : x.countBad.Ok := by
  obtain ⟨k1, -, -, k4, k5, k6, k7, k8⟩ := portOk_iff.mp h
  exact portOk_iff.mpr ⟨k1, Nat.zero_le _, Nat.min_le_right _ _, k4, k5, k6, k7, k8⟩

/-- The frame in flight of a port goes, and the transmitter that it has claimed sends on or is free: what its end, its cut
and the loss of its link have in common (R50, R54, R57). -/
theorem portsOk_of_frame_gone {s t : State} {p : PortId} {f : Frame} (h : s.PortsOk) (hf : (s.port p).frame = some f)
    (hok : ∀ q, (t.port q).Ok) (hframe : ∀ q, (t.port q).frame = if q = p then none else (s.port q).frame)
    (hsent : ∀ q, f.through ≠ some q → (t.port q).transmitter = (s.port q).transmitter) : t.PortsOk := by
  obtain ⟨-, hc⟩ := portsOk_iff.mp h
  refine portsOk_iff.mpr ⟨hok, fun r q g hr hg => ?_⟩
  rw [hframe] at hr
  split at hr
  · cases hr
  · next hne =>
    rw [hsent q fun hq => hne (claimed_by_one hc hf hq hr hg)]
    exact hc r q g hr hg

theorem dropFrame_ok {x : Port} (h : x.Ok) : Port.Ok { x with frame := none } := by
  obtain ⟨k1, k2, k3, -, k5, k6, k7, -⟩ := portOk_iff.mp h
  exact portOk_iff.mpr ⟨k1, k2, k3, by simp, k5, k6, k7, by simp⟩

/-- What a transmitter that sends comes to send leaves its port in order. -/
theorem completeSending_ok {x : Port} (h : x.Ok) (ht : x.transmitter ≠ .idle) (p : PortId) (o : List Byte) :
    Port.Ok { x with transmitter := .sending p (some o) } := by
  obtain ⟨k1, k2, k3, k4, -, k6, k7, k8⟩ := portOk_iff.mp h
  exact portOk_iff.mpr ⟨k1, k2, k3, k4, by simp, fun hd _ => k6 hd ht, k7, k8⟩

theorem idleAfter_ok {x : Port} (h : x.Ok) (o : List Byte) : (x.idleAfter o).Ok := by
  obtain ⟨k1, k2, k3, k4, -, -, k7, k8⟩ := portOk_iff.mp h
  exact portOk_iff.mpr ⟨k1, k2, k3, k4, fun _ => rfl, fun _ hb => absurd rfl hb, k7, k8⟩

/-- Without a frame in flight a port may await an end or not. -/
theorem awaitingEnd_ok {x : Port} (h : x.Ok) (hf : x.frame = none) (b : Bool) : Port.Ok { x with awaitingEnd := b } := by
  obtain ⟨k1, k2, k3, -, k5, k6, k7, k8⟩ := portOk_iff.mp h
  exact portOk_iff.mpr ⟨k1, k2, k3, by simp [hf], k5, k6, k7, k8⟩

theorem finishSending_ok {s : State} (h : ∀ q, (s.port q).Ok) {f : Frame}
    (hbusy : ∀ q, f.through = some q → (s.port q).transmitter ≠ .idle) (p : PortId) (o : List Byte) (q : PortId) :
    ((s.finishSending p f o).port q).Ok := by
  rw [port_finishSending]
  split
  · next hq => exact completeSending_ok (h q) (hbusy q hq) p o
  · exact h q

theorem releaseCut_ok {s : State} (h : ∀ q, (s.port q).Ok) (f : Frame) (o : List Byte) (q : PortId) :
    ((s.releaseCut f o).port q).Ok := by
  rw [port_releaseCut]
  split
  · exact idleAfter_ok (h q) o
  · exact h q

/-- The transmitter that a frame in flight has claimed is not idle. -/
theorem claimed_busy {s : State} (h : s.PortsOk) {p q : PortId} {f : Frame} (hf : (s.port p).frame = some f)
    (hq : f.through = some q) : (s.port q).transmitter ≠ .idle := by
  rw [(portsOk_iff.mp h).2 p q f hf hq]
  simp

/-! ## Link down keeps the ports in order -/

theorem loseFrame_portsOk {s : State} (h : s.PortsOk) (p : PortId) : (s.loseFrame p).PortsOk := by
  cases hf : (s.port p).frame with
  | none => rwa [loseFrame_of_none hf]
  | some f =>
    have hports := (portsOk_iff.mp h).1
    refine portsOk_of_frame_gone h hf (fun q => ?_) (frame_loseFrame s p) (fun q hq => ?_)
    · have hlose : s.loseFrame p = (s.modifyPort p (fun x => { x.countBad with frame := none })).finishSending p f
          (badlyEnded f.flush.sent) := by
        simp [State.loseFrame, hf]
      rw [hlose]
      refine finishSending_ok (modifyPort_ok hports (dropFrame_ok (countBad_ok (hports p)))) (fun r hr => ?_) p _ q
      have hbusy := claimed_busy h hf hr
      rw [port_modifyPort]
      split
      · exact hbusy
      · exact hbusy
    · rw [port_loseFrame_of_some hf]
      exact if_neg hq

theorem takeLinkDown_portsOk {s : State} (h : s.PortsOk) (p : PortId) : (s.takeLinkDown p).PortsOk := by
  have hlost := loseFrame_portsOk h p
  have hdown := goDown_ok ((portsOk_iff.mp hlost).1 p) (by rw [frame_loseFrame, if_pos rfl])
  obtain ⟨-, -, -, hframe, -, -, htransmitter⟩ := goDown_keeps ((s.loseFrame p).port p)
  rw [takeLinkDown_eq]
  exact applyLoop_portsOk (raise_portsOk (modifyPort_portsOk hlost hdown hframe htransmitter) _) p

theorem linkDown_portsOk {s : State} (h : s.PortsOk) (p : PortId) : (s.linkDown p).PortsOk := by
  unfold State.linkDown
  split
  · exact firstReport_portsOk h p false
  · split
    · exact takeLinkDown_portsOk h p
    · exact h

/-! ## A frame's start and its telegrams keep the ports in order -/

theorem claim_ok {x : Port} (h : x.Ok) (p : PortId) : (x.claim p).Ok := by
  obtain ⟨k1, k2, k3, k4, -, -, k7, k8⟩ := portOk_iff.mp h
  exact portOk_iff.mpr ⟨k1, k2, k3, k4, by simp [Port.claim], fun hd _ => by simpa [Port.claim] using hd, k7, k8⟩

theorem putFrame_ok {x : Port} (h : x.Ok) (hup : x.up = true) (ha : x.awaitingEnd = false) {f : Frame}
    (hf : frameFits f) : Port.Ok { x with frame := some f } := by
  obtain ⟨k1, k2, k3, -, k5, k6, k7, -⟩ := portOk_iff.mp h
  refine portOk_iff.mpr ⟨k1, k2, k3, fun _ => ⟨hup, ha⟩, k5, k6, k7, fun g hg => ?_⟩
  obtain rfl := Option.some.inj hg
  exact hf

theorem begin_fits (head : List Byte) (q : Option PortId) (b : Bool) : frameFits (Frame.begin head q b) := by
  simp [frameFits, Frame.begin]

theorem frameStart_portsOk {s : State} (h : s.PortsOk) (p : PortId) (head : List Byte) :
    (s.frameStart p head).PortsOk := by
  obtain ⟨hports, hclaims⟩ := portsOk_iff.mp h
  by_cases ht : (s.port p).takesFrame = true
  · obtain ⟨hup, hnone, hawait⟩ := takesFrame_iff.mp ht
    have hput : ∀ q b r, ((s.modifyPort p (fun x => { x with frame := some (Frame.begin head q b) })).port r).Ok :=
      fun q b => modifyPort_ok hports (putFrame_ok (hports p) hup hawait (begin_fits head q b))
    refine portsOk_iff.mpr ⟨fun q => ?_, fun r q f hr hq => ?_⟩
    · unfold State.frameStart
      rw [if_pos ht]
      dsimp only
      split
      · exact modifyPort_ok (hput _ _) (claim_ok (hput _ _ _) p) q
      · exact hput _ _ q
    · rw [port_frameStart ht] at hr ⊢
      dsimp only at hr ⊢
      split at hr
      · next hrp =>
        obtain rfl := Option.some.inj hr
        simp only [startedFrame, Frame.begin, Option.ite_none_right_eq_some, Option.some.injEq] at hq
        obtain ⟨hidle, rfl⟩ := hq
        rw [if_pos ⟨hidle, rfl⟩, hrp]
      · have hsends := hclaims r q f hr hq
        rw [if_neg (by simp [hsends]), hsends]
  · unfold State.frameStart
    rwa [if_neg ht]

/-- A frame in flight may be rewritten as long as it keeps its claim and holds no more than it may. -/
theorem setFrame_portsOk {s : State} (h : s.PortsOk) {p : PortId} {f g : Frame} (hf : (s.port p).frame = some f)
    (hthrough : g.through = f.through) (hg : frameFits g) : (s.setFrame p g).PortsOk := by
  obtain ⟨hports, hclaims⟩ := portsOk_iff.mp h
  obtain ⟨-, -, -, hflight, -⟩ := portOk_iff.mp (hports p)
  obtain ⟨hup, hawait⟩ := hflight (by simp [hf])
  have hkeeps : ∀ q, ((s.setFrame p g).port q).transmitter = (s.port q).transmitter := by
    intro q
    rw [State.setFrame, port_modifyPort]
    split <;> rfl
  refine portsOk_iff.mpr ⟨modifyPort_ok hports (putFrame_ok (hports p) hup hawait hg), fun r q k hr hq => ?_⟩
  rw [hkeeps]
  rw [State.setFrame, port_modifyPort] at hr
  split at hr
  · next hrp =>
    obtain rfl := Option.some.inj hr
    rw [hrp]
    exact hclaims p q f hf (hthrough ▸ hq)
  · exact hclaims r q k hr hq

theorem frameFits_of_inFlight {s : State} (h : s.PortsOk) {p : PortId} {f : Frame} (hf : (s.port p).frame = some f) :
    frameFits f := by
  obtain ⟨-, -, -, -, -, -, -, hfits⟩ := portOk_iff.mp ((portsOk_iff.mp h).1 p)
  exact hfits f hf

theorem flush_fits {f : Frame} (h : frameFits f) : frameFits f.flush ∧ f.flush.telegram = none ∧ f.flush.items = f.items
    ∧ f.flush.parsed = f.parsed := by
  obtain ⟨hitems, hparsed⟩ := h
  unfold Frame.flush
  split
  · next ht => exact ⟨⟨hitems, hparsed⟩, ht, rfl, rfl⟩
  · exact ⟨⟨by simp; omega, hparsed⟩, rfl, rfl, rfl⟩

theorem pass_fits {f : Frame} (h : frameFits f) (o : List Byte) : frameFits (f.pass o) := h

theorem open_fits {f : Frame} (h : frameFits f) {o : List Byte} (hm : f.mayParse o = true) (t : OpenTelegram) :
    frameFits (f.open_ t) := by
  obtain ⟨hitems, -⟩ := h
  have hm' : f.parsed < 64 := by
    simp only [Frame.mayParse, Bool.and_eq_true, decide_eq_true_eq] at hm
    omega
  exact ⟨by simp [Frame.open_]; omega, by simp [Frame.open_]; omega⟩

theorem close_fits {f : Frame} (h : frameFits f) {t : OpenTelegram} (ht : f.telegram = some t) (check : Word16) :
    frameFits (f.close t check) := by
  obtain ⟨hitems, hparsed⟩ := h
  rw [ht] at hitems
  have hone : ∀ n, (t.item n).toList.length ≤ 1 := by
    intro n
    cases t.item n <;> simp
  rw [close_eq ht]
  refine ⟨?_, hparsed⟩
  have := hone (f.received.length + t.received.length + 2)
  simp only [Option.toList_some, List.length_singleton] at hitems
  simp only [List.length_append, Option.toList_none, List.length_nil]
  split
  · omega
  · simp only [List.length_nil]
    omega

theorem telegramParse_portsOk {s : State} (h : s.PortsOk) (p : PortId) (o : List Byte) :
    (s.telegramParse p o).PortsOk := by
  unfold State.telegramParse
  split
  · exact h
  · next f hf =>
    have hfits := frameFits_of_inFlight h hf
    split
    · next hm => exact setFrame_portsOk h hf rfl (open_fits hfits hm _)
    · exact setFrame_portsOk h hf (through_flush_pass f o) (pass_fits (flush_fits hfits).1 o)

theorem passRequest_portsOk {s : State} (h : s.PortsOk) (t : Telegram) (q : Request) : (s.passRequest t q).PortsOk := by
  unfold State.passRequest
  split
  · exact h
  · next f hf =>
    have hfits := frameFits_of_inFlight h hf
    dsimp only
    split
    · next hm => exact setFrame_portsOk h hf rfl (open_fits hfits hm _)
    · exact setFrame_portsOk h hf (through_flush_pass f _) (pass_fits (flush_fits hfits).1 _)

theorem telegramCheck_portsOk {s : State} (h : s.PortsOk) (p : PortId) (check : Word16) :
    (s.telegramCheck p check).PortsOk := by
  unfold State.telegramCheck
  split
  · exact h
  · next f hf =>
    have hfits := frameFits_of_inFlight h hf
    split
    · next t ht =>
      exact setFrame_portsOk h hf (by rw [close_eq ht]) (close_fits hfits ht check)
    · exact setFrame_portsOk h hf rfl (pass_fits hfits _)

/-! ## A frame's cut and its end keep the ports in order -/

theorem cut_portsOk {s : State} (h : s.PortsOk) {p : PortId} {f g : Frame} (hf : (s.port p).frame = some f)
    (hg : g.through = f.through) : (s.cut p g).PortsOk := by
  have hports := (portsOk_iff.mp h).1
  have hcounted : ∀ q, ((s.modifyPort p (fun x => { x.countBad with frame := none, awaitingEnd := true })).port q).Ok :=
    modifyPort_ok hports (awaitingEnd_ok (dropFrame_ok (countBad_ok (hports p))) rfl true)
  refine portsOk_of_frame_gone h hf (fun q => ?_) (fun q => ?_) (fun q hq => ?_)
  · rw [State.cut, port_raise]
    exact releaseCut_ok hcounted _ _ q
  · rw [port_cut]
    dsimp only
    split <;> split <;> rfl
  · rw [port_cut]
    dsimp only
    rw [if_neg (by rwa [hg])]
    split <;> rfl

theorem frameCut_portsOk {s : State} (h : s.PortsOk) (p : PortId) (o : List Byte) : (s.frameCut p o).PortsOk := by
  unfold State.frameCut
  split
  · exact h
  · next f hf =>
    have hthrough := through_flush_pass f o
    dsimp only
    split
    · exact cut_portsOk h hf hthrough
    · exact setFrame_portsOk h hf hthrough (pass_fits (flush_fits (frameFits_of_inFlight h hf)).1 o)

theorem frameLeft_portsOk {s : State} (h : s.PortsOk) {p : PortId} {f g : Frame} (hf : (s.port p).frame = some f)
    (hg : g.through = f.through) : (frameLeft s p g).PortsOk := by
  have hports := (portsOk_iff.mp h).1
  refine portsOk_of_frame_gone h hf (fun q => ?_) (fun q => ?_) (fun q hq => ?_)
  · refine finishSending_ok (modifyPort_ok hports (dropFrame_ok (hports p))) (fun r hr => ?_) p _ q
    have hbusy := claimed_busy h hf (hg ▸ hr)
    rw [port_modifyPort]
    split
    · exact hbusy
    · exact hbusy
  · rw [port_frameLeft]
  · rw [port_frameLeft]
    exact if_neg (by rwa [hg])

theorem countValid_ok {x : Port} (h : x.Ok) : x.countValid.Ok := by
  obtain ⟨k1, k2, k3, k4, k5, k6, k7, k8⟩ := portOk_iff.mp h
  rw [countValid_eq]
  split
  · split
    · exact portOk_iff.mpr ⟨k1, Nat.zero_le _, k3, k4, k5, k6, k7, k8⟩
    · exact portOk_iff.mpr ⟨k1, by dsimp only; omega, k3, k4, k5, k6, k7, k8⟩
  · exact h

theorem silenceRenewed_ok {x : Port} (h : x.Ok) (hup : x.up = true) (now : Nat) : (silenceRenewed x now).Ok := by
  obtain ⟨-, k2, k3, k4, k5, k6, k7, k8⟩ := portOk_iff.mp h
  refine portOk_iff.mpr ⟨by simp [silenceRenewed, hup], k2, k3, k4, k5, k6, fun hr => ?_, k8⟩
  exact ⟨(k7 hr).1, rfl⟩

theorem renewSilence_portsOk {s : State} (h : s.PortsOk) {p : PortId} (hup : (s.port p).up = true) :
    (s.renewSilence p).PortsOk := by
  have hset : (s.modifyPort p (fun x => silenceRenewed x s.time.elapsed)).PortsOk :=
    modifyPort_portsOk h (silenceRenewed_ok ((portsOk_iff.mp h).1 p) hup _) rfl rfl
  unfold State.renewSilence
  dsimp only
  split
  · exact note_portsOk hset _ _ _
  · exact hset

theorem commit_portsOk {s : State} (h : s.PortsOk) {p : PortId} (hup : (s.port p).up = true) (f : Frame) :
    (s.commit p f).PortsOk := by
  have hretuned := itemsCommitted_retunes s p f
  have hitems := portsOk_of_retuned hretuned h
  have hup' : ((itemsCommitted s p f).port p).up = true := (hretuned p).1.trans hup
  obtain ⟨-, -, -, -, htransmitter, hframe, hlink⟩ := countValid_keeps ((itemsCommitted s p f).port p)
  have hcounted := modifyPort_portsOk hitems (countValid_ok ((portsOk_iff.mp hitems).1 p)) hframe htransmitter
  rw [commit_eq]
  exact applyLoop_portsOk (renewSilence_portsOk hcounted (by rwa [port_modifyPort_same, hlink])) p

theorem frameEnd_portsOk {s : State} (h : s.PortsOk) (p : PortId) (o : List Byte) : (s.frameEnd p o).PortsOk := by
  have hports := (portsOk_iff.mp h).1
  unfold State.frameEnd
  split
  · next hf => exact modifyPort_portsOk h (awaitingEnd_ok (hports p) hf false) rfl rfl
  · next f hf =>
    have hthrough := through_flush_pass f o
    dsimp only
    split
    · have hcut := cut_portsOk h hf hthrough
      exact modifyPort_portsOk hcut
        (awaitingEnd_ok ((portsOk_iff.mp hcut).1 p) (port_cut_own s p _).1 false) rfl rfl
    · have hleft := frameLeft_portsOk h hf hthrough
      obtain ⟨-, -, -, hflight, -⟩ := portOk_iff.mp (hports p)
      have hup : ((frameLeft s p (f.flush.pass o)).port p).up = true := by
        rw [port_frameLeft]
        exact (hflight (by simp [hf])).1
      change State.PortsOk (if _ then if _ then (frameLeft s p (f.flush.pass o)).commit p (f.flush.pass o) else
        frameLeft s p (f.flush.pass o) else (frameLeft s p (f.flush.pass o)).modifyPort p Port.countBad)
      split
      · split
        · exact commit_portsOk hleft hup _
        · exact hleft
      · exact modifyPort_portsOk hleft (countBad_ok ((portsOk_iff.mp hleft).1 p)) rfl rfl

/-! ## The silence of a port and its last octet keep the ports in order -/

theorem silent_ok {x : Port} (h : x.Ok) (hd : x.silenceDeadline.isSome = true) :
    Port.Ok { x with activity := .silent, silenceDeadline := none } := by
  obtain ⟨k1, k2, k3, k4, k5, k6, k7, k8⟩ := portOk_iff.mp h
  refine portOk_iff.mpr ⟨by simp, k2, k3, k4, k5, k6, fun hr => ?_, k8⟩
  have hup := (k1.mp hd).1
  simp [(k7 hr).1] at hup

theorem portSilence_portsOk {s : State} (h : s.PortsOk) (p : PortId) : (s.portSilence p).PortsOk := by
  unfold State.portSilence
  dsimp only
  split
  · next hreached =>
    have hd : (s.port p).silenceDeadline.isSome = true := by
      cases hd : (s.port p).silenceDeadline with
      | none => simp [State.reached, hd] at hreached
      | some d => rfl
    have hset : (s.modifyPort p (fun x => { x with activity := .silent, silenceDeadline := none })).PortsOk :=
      modifyPort_portsOk h (silent_ok ((portsOk_iff.mp h).1 p) hd) rfl rfl
    exact raise_portsOk hset _
  · exact h

theorem lastOctetLeft_portsOk {s : State} (h : s.PortsOk) (p : PortId) : (s.lastOctetLeft p).PortsOk := by
  obtain ⟨hports, hclaims⟩ := portsOk_iff.mp h
  unfold State.lastOctetLeft
  split
  · next src o ht =>
    refine portsOk_iff.mpr ⟨modifyPort_ok hports (idleAfter_ok (hports p) o), fun r q f hr hq => ?_⟩
    have hframe : (s.port r).frame = some f := by
      rw [port_modifyPort] at hr
      split at hr
      · exact hr
      · exact hr
    have hsends := hclaims r q f hframe hq
    have hne : q ≠ p := by
      rintro rfl
      simp [ht] at hsends
    rwa [port_modifyPort, if_neg hne]
  · exact h
  · exact h

end Sys2Proof.Laws
end

section
/-! SUPPORT. A row's effect after its delay, and the ports through every row. -/

namespace Sys2Proof.Laws

open Sys2Proof Sys2Proof.Machine

/-! ## Every step (log 3, R187) -/

/-- The effect of a row in the state that its delay has advanced; a power row has none of this form. -/
def rowEffect (i : Instr) (s : State) : State :=
  match i with
  | .firstLinkReport _ p up => s.firstReport p up
  | .linkDown _ p => s.linkDown p
  | .linkUp _ p => s.linkUp p
  | .loopStateChange _ p => s.applyLoop p
  | .frameStart _ p head => s.frameStart p head
  | .telegramParse _ p o => s.telegramParse p o
  | .telegramCheck _ p check => s.telegramCheck p check
  | .frameCut _ p o => s.frameCut p o
  | .frameEnd _ p o => s.frameEnd p o
  | .portSilenceDeadline _ p => s.portSilence p
  | .lastOctetLeft _ p => s.lastOctetLeft p
  | .referenceMessage _ w o => s.referenceMessage w o
  | .messageOctet _ w b => s.messageOctet w b
  | .messageOctetTimeout _ w => s.octetTimeout w
  | .messageFramingError _ w => s.dropPartial w
  | .markLeadingEdge _ w => s.leadingEdge w
  | .markTrailingEdge _ w => s.trailingEdge w
  | .markWidthLimit _ w => s.widthLimit w
  | .markDeadline _ x => s.markDeadline x
  | .absenceDeadline _ x => s.absenceDeadline x
  | .revertInstant _ x => s.revertInstant x
  | .holdoverSecond _ => s.holdoverSecond
  | .scaleEndHold _ => s.scaleEndHold
  | .secondMarkStart _ => s.secondMarkStart
  | .secondMarkEnd _ => s.secondMarkFall
  | .offsetChangeInstant _ => s.takeOffset
  | .elementSilenceDeadline _ a => s.silenceDeadline a
  | .startDeadline _ a => s.startDeadline a
  | .runDeadline _ a => s.runDeadline a
  | .settleDeadline _ a => s.settleDeadline a
  | .confirmDeadline _ a => s.confirmDeadline a
  | .changeover _ => s.takeChangeover
  | .drainEnd _ => s.takeDrainEnd
  | .timetableExpiry _ => s.expireDue
  | .pulseStart _ l => s.startPulse l
  | .currentPresent _ l active => s.senseCurrent l active
  | .pulseEnd _ l => s.endPulse l
  | .overcurrent _ l active => s.senseOvercurrent l active
  | .retryDeadline _ l => s.endRetry l
  | _ =>
    match i.request with
    | some (x, q) => s.passRequest x q
    | none => s

/-- A row that is not of power lets its delay pass and then acts; in reset it does nothing (R187; log 1). -/
theorem exec_eq_timed {i : Instr} (hp : ∀ b, i ≠ .powerOn b) (hr : i ≠ .resetAssert) (s : State) :
    exec i s = s.timed i.delay (rowEffect i) := by
  cases i with
  | powerOn b => exact absurd rfl (hp b)
  | resetAssert => exact absurd rfl hr
  | _ => rfl

theorem powerOn_portsOk : Port.powerOn.Ok := by
  refine portOk_iff.mpr ⟨?_, ?_, ?_, ?_, ?_, ?_, ?_, ?_⟩ <;> simp [Port.powerOn]

/-- Both ports at power-on, whatever else the part holds (R60). -/
theorem portsOk_of_powerOn {s : State} (ha : s.portA = Port.powerOn) (hb : s.portB = Port.powerOn) : s.PortsOk := by
  have hport : ∀ p, s.port p = Port.powerOn := by
    intro p
    cases p
    · exact ha
    · exact hb
  refine portsOk_iff.mpr ⟨fun p => ?_, fun p q f hf => ?_⟩
  · rw [hport]
    exact powerOn_portsOk
  · rw [hport] at hf
    cases hf

/-- Every row that is not of power keeps the ports in order. -/
theorem rowEffect_portsOk {s : State} (hs : s.PortsOk) (i : Instr) : (rowEffect i s).PortsOk := by
  cases i with
  | firstLinkReport _ p up => exact firstReport_portsOk hs p up
  | linkDown _ p => exact linkDown_portsOk hs p
  | linkUp _ p => exact linkUp_portsOk hs p
  | loopStateChange _ p => exact applyLoop_portsOk hs p
  | frameStart _ p head => exact frameStart_portsOk hs p head
  | telegramParse _ p o => exact telegramParse_portsOk hs p o
  | telegramCheck _ p check => exact telegramCheck_portsOk hs p check
  | frameCut _ p o => exact frameCut_portsOk hs p o
  | frameEnd _ p o => exact frameEnd_portsOk hs p o
  | portSilenceDeadline _ p => exact portSilence_portsOk hs p
  | lastOctetLeft _ p => exact lastOctetLeft_portsOk hs p
  | referenceMessage _ w o => exact portsOk_of_ports (referenceMessage_ports s w o) hs
  | messageOctet _ w b => exact portsOk_of_ports (messageOctet_ports s w b) hs
  | messageOctetTimeout _ w => exact portsOk_of_ports (octetTimeout_ports s w) hs
  | messageFramingError _ w => exact portsOk_of_ports (dropPartial_ports s w) hs
  | markLeadingEdge _ w => exact portsOk_of_ports (leadingEdge_ports s w) hs
  | markTrailingEdge _ w => exact portsOk_of_ports (trailingEdge_ports s w) hs
  | markWidthLimit _ w => exact portsOk_of_ports (widthLimit_ports s w) hs
  | markDeadline _ x => exact portsOk_of_ports (markDeadline_ports s x) hs
  | absenceDeadline _ x => exact portsOk_of_ports (absenceDeadline_ports s x) hs
  | revertInstant _ x => exact portsOk_of_ports (revertInstant_ports s x) hs
  | holdoverSecond _ => exact portsOk_of_ports (holdoverSecond_ports s) hs
  | scaleEndHold _ => exact portsOk_of_ports (scaleEndHold_ports s) hs
  | secondMarkStart _ => exact portsOk_of_ports (secondMarkStart_ports s) hs
  | secondMarkEnd _ => exact portsOk_of_ports (secondMarkFall_ports s) hs
  | offsetChangeInstant _ => exact portsOk_of_ports (ports_of_sameBut (takeOffset_sameBut s)) hs
  | elementSilenceDeadline _ a => exact portsOk_of_ports (silenceDeadline_ports s a) hs
  | startDeadline _ a => exact portsOk_of_ports ((startDeadline_keeps s a).imp_right And.left) hs
  | runDeadline _ a => exact portsOk_of_ports ((runDeadline_keeps s a).imp_right And.left) hs
  | settleDeadline _ a => exact portsOk_of_ports ((settleDeadline_keeps s a).imp_right And.left) hs
  | confirmDeadline _ a => exact portsOk_of_ports ((confirmDeadline_keeps s a).imp_right And.left) hs
  | changeover _ => exact portsOk_of_ports (ports_of_sameBut (takeChangeover_sameBut s)) hs
  | drainEnd _ => exact portsOk_of_ports (ports_of_sameBut (takeDrainEnd_sameBut s)) hs
  | timetableExpiry _ => exact portsOk_of_ports (ports_of_sameBut (expireDue_sameBut s)) hs
  | pulseStart _ l => exact portsOk_of_ports (startPulse_ports s l) hs
  | currentPresent _ l active => exact portsOk_of_ports (senseCurrent_ports s l active) hs
  | pulseEnd _ l => exact portsOk_of_ports (endPulse_ports s l) hs
  | overcurrent _ l active => exact portsOk_of_ports (senseOvercurrent_ports s l active) hs
  | retryDeadline _ l => exact portsOk_of_ports (endRetry_ports s l) hs
  | powerOn _ => exact hs
  | resetAssert => exact hs
  | _ => exact passRequest_portsOk hs _ _

/-- Every command keeps the ports in order. -/
theorem exec_portsOk {s t : State} {i : Instr} (hs : s.PortsOk) (h : exec i s = .next t) : t.PortsOk := by
  by_cases hp : ∃ b, i = .powerOn b
  · obtain ⟨b, rfl⟩ := hp
    obtain rfl := (Host.Outcome.next.inj h).symm
    exact portsOk_of_powerOn rfl rfl
  · by_cases hr : i = .resetAssert
    · subst hr
      obtain rfl := (Host.Outcome.next.inj h).symm
      exact portsOk_of_powerOn rfl rfl
    · rw [exec_eq_timed (fun b hb => hp ⟨b, hb⟩) hr] at h
      obtain rfl := (Host.Outcome.next.inj h).symm
      split
      · exact hs
      · exact rowEffect_portsOk (portsOk_of_ports (by simp) hs) i

/-- What the part does on an empty queue writes no port (log 3). -/
theorem idle_ports (s : State) : s.idle.portA = s.portA ∧ s.idle.portB = s.portB := by
  unfold State.idle
  split
  · exact ⟨rfl, rfl⟩
  · split <;> exact ⟨rfl, rfl⟩

end Sys2Proof.Laws

namespace Sys2Proof.Proofs

open Sys2Proof Sys2Proof.Machine Sys2Proof.Laws

/-- Settles O30: an empty queue writes no port, and every command keeps both in order. -/
theorem portsStayInOrder : Obligations.PortsStayInOrder := by
  intro s t hs h
  unfold step at h
  split at h
  · obtain rfl := (Host.Outcome.next.inj h).symm
    exact portsOk_of_ports (idle_ports s) hs
  · next c rest _ =>
    have hrest : State.PortsOk { s with pending := rest } := hs
    exact exec_portsOk hrest h

end Sys2Proof.Proofs
end

section
/-! SUPPORT. The screening of an element telegram and its body, and the sequence window. -/

namespace Sys2Proof.Laws

open Sys2Proof Sys2Proof.Machine

/-! ## Screening and bodies (R46, R79, R190) -/

theorem targetOf_eq_some {n : Nat} {t : Target} :
    targetOf n = some t ↔ (n = 1 ∧ t = .normal) ∨ (n = 2 ∧ t = .reverse) := by
  unfold targetOf
  split <;> simp_all [eq_comm]

theorem detectedOf_eq_some {n : Nat} {d : Detected} :
    detectedOf n = some d ↔ (n = 0 ∧ d = .none) ∨ (n = 1 ∧ d = .normal) ∨ (n = 2 ∧ d = .reverse) := by
  unfold detectedOf
  split <;> simp_all [eq_comm]

theorem lampOf_eq_some {n : Nat} {l : Lamp} :
    lampOf n = some l ↔ (n = 1 ∧ l = .proven) ∨ (n = 2 ∧ l = .dark) := by
  unfold lampOf
  split <;> simp_all [eq_comm]

/-- A character of a train tag is a digit or a capital letter (R126, R189). -/
theorem isTagOctet_iff {b : Byte} :
    isTagOctet b = true ↔ (0x30 ≤ b.toNat ∧ b.toNat ≤ 0x39) ∨ (0x41 ≤ b.toNat ∧ b.toNat ≤ 0x5A) := by
  simp [isTagOctet]

theorem tagOf_eq_some {c d e f : Byte} {t : TrainTag} :
    tagOf c d e f = some t ↔ isTagOctet c = true ∧ isTagOctet d = true ∧ isTagOctet e = true ∧ isTagOctet f = true
      ∧ t = { c0 := c, c1 := d, c2 := e, c3 := f } := by
  simp [tagOf, tagValid, and_assoc, eq_comm (a := t)]

/-- An octet is known by its number. -/
theorem toNat_eq_iff {b : Byte} {n : Nat} (h : n < 256) : b.toNat = n ↔ b = BitVec.ofNat 8 n := by
  rw [← BitVec.toNat_inj, BitVec.toNat_ofNat, Nat.mod_eq_of_lt h]

theorem pointCommandValue_iff {body : List Byte} {v : Value} :
    commandValue .point body = some v
      ↔ (body = [0x01] ∧ v = .target .normal) ∨ (body = [0x02] ∧ v = .target .reverse) := by
  match body with
  | [] => simp [commandValue]
  | [b] =>
    simp only [commandValue, Option.map_eq_some_iff, targetOf_eq_some, toNat_eq_iff (b := b) (n := 1) (by decide),
      toNat_eq_iff (b := b) (n := 2) (by decide), List.cons.injEq, and_true]
    constructor
    · rintro ⟨t, ⟨hb, rfl⟩ | ⟨hb, rfl⟩, rfl⟩
      · exact .inl ⟨hb, rfl⟩
      · exact .inr ⟨hb, rfl⟩
    · rintro (⟨hb, rfl⟩ | ⟨hb, rfl⟩)
      · exact ⟨_, .inl ⟨hb, rfl⟩, rfl⟩
      · exact ⟨_, .inr ⟨hb, rfl⟩, rfl⟩
  | _ :: _ :: _ => simp [commandValue]

theorem pointStatusValue_iff {body : List Byte} {v : Value} :
    statusValue .point body = some v
      ↔ (body = [0x00] ∧ v = .detected .none) ∨ (body = [0x01] ∧ v = .detected .normal)
        ∨ (body = [0x02] ∧ v = .detected .reverse) := by
  match body with
  | [] => simp [statusValue]
  | [b] =>
    simp only [statusValue, Option.map_eq_some_iff, detectedOf_eq_some, toNat_eq_iff (b := b) (n := 0) (by decide),
      toNat_eq_iff (b := b) (n := 1) (by decide), toNat_eq_iff (b := b) (n := 2) (by decide), List.cons.injEq, and_true]
    constructor
    · rintro ⟨t, ⟨hb, rfl⟩ | ⟨hb, rfl⟩ | ⟨hb, rfl⟩, rfl⟩
      · exact .inl ⟨hb, rfl⟩
      · exact .inr (.inl ⟨hb, rfl⟩)
      · exact .inr (.inr ⟨hb, rfl⟩)
    · rintro (⟨hb, rfl⟩ | ⟨hb, rfl⟩ | ⟨hb, rfl⟩)
      · exact ⟨_, .inl ⟨hb, rfl⟩, rfl⟩
      · exact ⟨_, .inr (.inl ⟨hb, rfl⟩), rfl⟩
      · exact ⟨_, .inr (.inr ⟨hb, rfl⟩), rfl⟩
  | _ :: _ :: _ => simp [statusValue]

theorem signalCommandValue_iff {body : List Byte} {v : Value} :
    commandValue .signal body = some v
      ↔ (∃ b : Byte, b.toNat ≤ 7 ∧ body = [b] ∧ v = .aspect b.toNat none)
        ∨ ∃ b c d e f : Byte, 1 ≤ b.toNat ∧ b.toNat ≤ 7 ∧ isTagOctet c = true ∧ isTagOctet d = true
            ∧ isTagOctet e = true ∧ isTagOctet f = true ∧ body = [b, c, d, e, f]
            ∧ v = .aspect b.toNat (some { c0 := c, c1 := d, c2 := e, c3 := f }) := by
  constructor
  · intro h
    unfold commandValue at h
    split at h
    · next hk => cases hk
    · next b _ =>
      obtain ⟨hb, hv⟩ := Option.ite_none_right_eq_some.mp h
      exact .inl ⟨b, hb, rfl, (Option.some.inj hv).symm⟩
    · next b c d e f _ =>
      obtain ⟨⟨h1, h7⟩, hv⟩ := Option.ite_none_right_eq_some.mp h
      obtain ⟨t, ht, rfl⟩ := Option.map_eq_some_iff.mp hv
      obtain ⟨hc, hd, he, hf, rfl⟩ := tagOf_eq_some.mp ht
      exact .inr ⟨b, c, d, e, f, h1, h7, hc, hd, he, hf, rfl, rfl⟩
    · cases h
  · rintro (⟨b, hb, rfl, rfl⟩ | ⟨b, c, d, e, f, h1, h7, hc, hd, he, hf, rfl, rfl⟩)
    · exact if_pos hb
    · have ht := tagOf_eq_some.mpr ⟨hc, hd, he, hf, rfl⟩
      simp only [commandValue, h1, h7, and_self, if_true, ht, Option.map_some]

theorem signalStatusValue_iff {body : List Byte} {v : Value} :
    statusValue .signal body = some v
      ↔ ∃ b : Byte, b.toNat ≤ 7 ∧ ((body = [b, 0x01] ∧ v = .shown b.toNat .proven)
          ∨ (body = [b, 0x02] ∧ v = .shown b.toNat .dark)) := by
  constructor
  · intro h
    unfold statusValue at h
    split at h
    · next hk => cases hk
    · next b l _ =>
      obtain ⟨hb, hv⟩ := Option.ite_none_right_eq_some.mp h
      obtain ⟨x, hx, rfl⟩ := Option.map_eq_some_iff.mp hv
      obtain ⟨hl, rfl⟩ | ⟨hl, rfl⟩ := lampOf_eq_some.mp hx
      · obtain rfl := (toNat_eq_iff (by decide)).mp hl
        exact ⟨b, hb, .inl ⟨rfl, rfl⟩⟩
      · obtain rfl := (toNat_eq_iff (by decide)).mp hl
        exact ⟨b, hb, .inr ⟨rfl, rfl⟩⟩
    · cases h
  · rintro ⟨b, hb, ⟨rfl, rfl⟩ | ⟨rfl, rfl⟩⟩
    · exact if_pos hb
    · exact if_pos hb

/-! ## The sequence window (R80, R81) -/

theorem applyElement_of_unknown {s : State} {x : ElementTelegram} (h : s.element x.address = none) (body : List Byte) :
    s.applyElement x body = s := by
  simp only [State.applyElement, h]

theorem applyElement_of_unfit {s : State} {x : ElementTelegram} {r : ElementRecord} {body : List Byte}
    (hr : s.element x.address = some r) (hb : bodyValue x.kind r.kind body = none) : s.applyElement x body = s := by
  simp only [State.applyElement, hr, hb]

/-- A telegram with a body that fits is passed over in IGNORE and out of its window, and else accepted (R79, R80). -/
theorem applyElement_of_fit {s : State} {x : ElementTelegram} {r : ElementRecord} {body : List Byte} {v : Value}
    (hr : s.element x.address = some r) (hb : bodyValue x.kind r.kind body = some v) :
    s.applyElement x body =
      if r.mode = .ignore ∨ isNew (r.sequence x.kind) x.sequence = false then s else s.acceptTelegram r x v := by
  simp only [State.applyElement, hr, hb]

theorem isNew_iff {held : Option Nat} {n : Nat} :
    isNew held n = true ↔ ∀ h, held = some h → 1 ≤ (n + 256 - h) % 256 ∧ (n + 256 - h) % 256 ≤ 127 := by
  cases held with
  | none => simp [isNew]
  | some h => simp [isNew]

/-- Tables that hold the same of telegrams hold the same at every address. -/
theorem element_of_held {s t : State} (h : t.elements.map heldBy = s.elements.map heldBy) (a : Nat) :
    (t.element a).map heldBy = (s.element a).map heldBy := by
  have key : ∀ u : State, (u.element a).map heldBy = (u.elements.map heldBy).find? (fun r => r.1 == a) := by
    intro u
    rw [List.find?_map]
    rfl
  rw [key, key, h]

@[simp] theorem coverageStep_held (s : State) (t : ElementTelegram) :
    (s.coverageStep t).elements.map heldBy = s.elements.map heldBy := by
  have hcovered : ∀ (r : ElementRecord) c k, heldBy (r.covered c k) = heldBy r := by
    intro r c k
    unfold ElementRecord.covered
    dsimp only
    split <;> rfl
  unfold State.coverageStep
  split
  · rfl
  · split
    · exact modifyElement_held s _ fun r => hcovered r _ _
    · rfl

/-- Acceptance writes the value and the number of its kind, and the steps after it leave them (R80, R81). -/
theorem acceptTelegram_held (s : State) (r : ElementRecord) (t : ElementTelegram) (v : Value) :
    (s.acceptTelegram r t v).elements.map heldBy
      = (s.modifyElement t.address (fun r => r.accept t.kind t.sequence v)).elements.map heldBy := by
  unfold State.acceptTelegram State.elementEntry
  dsimp only
  split <;> split <;> simp

theorem sequence_eq_of_held {q r : ElementRecord} (h : heldBy q = heldBy r) (k : TelegramKind) :
    q.sequence k = r.sequence k ∧ q.last k = r.last k := by
  simp only [heldBy, Prod.mk.injEq] at h
  obtain ⟨-, hc, hs, hcn, hsn⟩ := h
  cases k
  · exact ⟨hcn, hc⟩
  · exact ⟨hsn, hs⟩

theorem accept_same (r : ElementRecord) (k : TelegramKind) (n : Nat) (v : Value) :
    (r.accept k n v).sequence k = some n ∧ (r.accept k n v).last k = some { value := v, stale := false } := by
  cases k <;> exact ⟨rfl, rfl⟩

theorem accept_other (r : ElementRecord) {k j : TelegramKind} (h : j ≠ k) (n : Nat) (v : Value) :
    (r.accept k n v).sequence j = r.sequence j ∧ (r.accept k n v).last j = r.last j := by
  cases k <;> cases j
  · exact absurd rfl h
  · exact ⟨rfl, rfl⟩
  · exact ⟨rfl, rfl⟩
  · exact absurd rfl h

theorem accept_address (r : ElementRecord) (k : TelegramKind) (n : Nat) (v : Value) :
    (r.accept k n v).address = r.address := by
  cases k <;> rfl

/-- The record of an accepted telegram holds of telegrams what acceptance gave it (R80, R81). -/
theorem element_acceptTelegram {s : State} {r : ElementRecord} {t : ElementTelegram}
    (hr : s.element t.address = some r) (v : Value) :
    ∃ q, (s.acceptTelegram r t v).element t.address = some q ∧ heldBy q = heldBy (r.accept t.kind t.sequence v) := by
  have hheld := element_of_held (acceptTelegram_held s r t v) t.address
  rw [element_modifyElement_same s _ _ fun r => accept_address r _ _ _, hr] at hheld
  exact Option.map_eq_some_iff.mp hheld

end Sys2Proof.Laws

namespace Sys2Proof.Proofs

open Sys2Proof Sys2Proof.Machine Sys2Proof.Laws

/-- Settles O31: what is screened, the bodies that fit, and the two sides of the window. -/
theorem sequenceWindow : Obligations.SequenceWindow := by
  refine ⟨fun s x body => ⟨fun h => applyElement_of_unknown h body, fun r hr hb => ?_⟩, fun body v => ?_,
    fun s x body r v hr hb hm => ⟨fun h hh hold => ?_, fun hnew => ?_⟩⟩
  · cases hv : bodyValue x.kind r.kind body with
    | none => exact applyElement_of_unfit hr hv
    | some v =>
      rw [applyElement_of_fit hr hv]
      exact if_pos (.inl (hb.resolve_left (by simp [hv])))
  · intro valid
    refine ⟨pointCommandValue_iff, ?_, pointStatusValue_iff, signalStatusValue_iff⟩
    have hvalid : ∀ b, isTagOctet b = true ↔ valid b := fun b => isTagOctet_iff
    simp only [← hvalid]
    exact signalCommandValue_iff
  · rw [applyElement_of_fit hr hb]
    refine if_pos (.inr ?_)
    rw [Bool.eq_false_iff, ne_eq, isNew_iff]
    intro hnew
    have := hnew h hh
    omega
  · have haccepted : s.applyElement x body = s.acceptTelegram r x v := by
      rw [applyElement_of_fit hr hb]
      exact if_neg (by simp [hm, isNew_iff.mpr hnew])
    obtain ⟨q, hq, hheld⟩ := element_acceptTelegram hr v
    obtain ⟨hsequence, hlast⟩ := accept_same r x.kind x.sequence v
    obtain ⟨qsequence, qlast⟩ := sequence_eq_of_held hheld x.kind
    rw [haccepted]
    refine ⟨q, hq, qsequence.trans hsequence, qlast.trans hlast, fun k hk => ?_⟩
    obtain ⟨ksequence, klast⟩ := sequence_eq_of_held hheld k
    obtain ⟨osequence, olast⟩ := accept_other r hk x.sequence v
    exact ⟨ksequence.trans osequence, klast.trans olast⟩

end Sys2Proof.Proofs
end

section
/-! SUPPORT. The octets of a service telegram, and its passage through the responder. -/

namespace Sys2Proof.Laws

open Sys2Proof Sys2Proof.Machine

/-! ## The octets of a service telegram (R190, R191) -/

theorem length_optionOctets (n : Nat) (v : Option Nat) : (optionOctets n v).length = n := by
  cases v with
  | none => exact List.length_replicate
  | some x => exact length_octets n x

theorem length_instantOctets (i : Instant) : (instantOctets i).length = 5 := by
  simp [instantOctets, length_octets]

theorem length_optionInstantOctets (i : Option Instant) : (optionInstantOctets i).length = 5 := by
  cases i with
  | none => rfl
  | some x => exact length_instantOctets x

theorem length_optionSignedOctets (v : Option Int) : (optionSignedOctets v).length = 2 := by
  cases v with
  | none => rfl
  | some x => exact length_octets 2 _

theorem length_flatMap_pairOctets (l : List (Nat × Nat)) : (l.flatMap pairOctets).length = 2 * l.length := by
  induction l with
  | nil => rfl
  | cons p l ih =>
    simp only [List.flatMap_cons, List.length_append, List.length_cons, ih, pairOctets, length_octets]
    omega

theorem length_timeConfigOctets (p : TimeConfigParams) : (timeConfigOctets p).length = 44 := by
  unfold timeConfigOctets
  simp only [List.length_append, length_octets]

/-- SET TIME CONFIGURATION has the longest parameters, 44 octets (R191). -/
theorem length_parameterOctets_le {q : Request} (h : q.wellFormed = true) : (parameterOctets q).length ≤ 44 := by
  cases q with
  | setActions n l =>
    have hl : l.length = 8 := by
      simp only [Request.wellFormed, Bool.and_eq_true, decide_eq_true_eq] at h
      obtain ⟨⟨_, hl⟩, _⟩ := h
      exact hl
    simp only [parameterOctets, List.length_append, length_octets, length_flatMap_pairOctets, hl, Nat.reduceMul,
      Nat.reduceAdd, Nat.reduceLeDiff]
  | setTimeConfiguration p => exact (length_timeConfigOctets p).le
  | loadElement p => simp [parameterOctets, loadElementOctets, length_octets, length_optionOctets]
  | loadEntry p => simp [parameterOctets, loadEntryOctets, tagOctets, length_octets, length_instantOctets]
  | setClockLine p => simp [parameterOctets, clockLineOctets, length_octets, length_optionOctets]
  | _ =>
    simp [parameterOctets, length_octets, length_optionOctets, length_optionInstantOctets, length_optionSignedOctets]

/-- The reply octets of a request (R191). -/
def replyLength (q : Request) : Nat := ((lengthsOf (codeOf q).toNat).map Prod.snd).getD 0

/-- READ RECORD has the longest reply, 268 octets (R191). -/
theorem replyLength_le (q : Request) : replyLength q ≤ 268 := by
  cases q <;> simp [replyLength, codeOf, lengthsOf]

theorem length_padTo (n : Nat) (l : List Byte) : (padTo n l).length = n := by
  simp only [padTo, List.length_take, List.length_append, List.length_replicate]
  omega

/-- A reply fills the reply area of its request (R191). -/
theorem length_reply {s : State} {q : Request} {b : List Byte} (h : s.reply q = some b) :
    b.length = replyLength q := by
  cases q with
  | readStatus =>
    cases h
    exact length_padTo 224 _
  | readElement a k =>
    cases h
    exact length_padTo 96 _
  | readEntry i k =>
    cases h
    exact length_padTo 48 _
  | readRecord n =>
    cases h
    exact length_padTo 268 _
  | _ => cases h

/-- The octets of a service telegram up to its result (R190, R191). -/
def serviceHead (x : Telegram) (q : Request) : List Byte :=
  octets 2 x.address.toNat ++ [0x20, x.sequence] ++ octets 2 (2 + (parameterOctets q).length + replyLength q)
    ++ codeOf q :: parameterOctets q

theorem length_serviceHead (x : Telegram) (q : Request) :
    (serviceHead x q).length = 7 + (parameterOctets q).length := by
  simp only [serviceHead, List.length_append, List.length_cons, List.length_nil, length_octets]
  omega

/-- A service telegram is its head, its result and its reply area (R191; log 9). -/
theorem serviceOctets_eq (x : Telegram) (q : Request) :
    serviceOctets x q = serviceHead x q ++ x.result :: List.replicate (replyLength q) 0 := by
  have hn : (parameterOctets q).length + (replyLength q + 1) + 1 = 2 + (parameterOctets q).length + replyLength q := by
    omega
  unfold serviceOctets serviceHead
  change _ ++ octets 2 (_ :: (_ ++ _ :: List.replicate (replyLength q) 0)).length ++ _ = _
  simp only [List.length_cons, List.length_append, List.length_replicate, hn, List.append_assoc, List.cons_append]
  rfl

theorem length_serviceOctets (x : Telegram) (q : Request) :
    (serviceOctets x q).length = 6 + (2 + (parameterOctets q).length + replyLength q) := by
  rw [serviceOctets_eq, List.length_append, length_serviceHead, List.length_cons, List.length_replicate]
  omega

theorem number_octets_two {v : Nat} (h : v < 65536) : number (octets 2 v) = v := by
  simp only [octets, number, List.foldl_cons, List.foldl_nil, BitVec.toNat_ofNat]
  omega

/-- The body length of a service telegram stands in its header (R190). -/
theorem field_serviceOctets {x : Telegram} {q : Request} (h : q.wellFormed = true) :
    field (serviceOctets x q) 4 2 = 2 + (parameterOctets q).length + replyLength q := by
  have hp := length_parameterOctets_le h
  have hr := replyLength_le q
  have hl : (octets 2 x.address.toNat ++ [0x20, x.sequence]).length = 4 := by simp [length_octets]
  have hfield : ((serviceOctets x q).drop 4).take 2 = octets 2 (2 + (parameterOctets q).length + replyLength q) := by
    rw [serviceOctets_eq, serviceHead, List.append_assoc, List.append_assoc, List.drop_left' hl,
      List.take_left' (length_octets 2 _)]
  rw [field, hfield, number_octets_two (by omega)]

/-- A well-formed service row brings its whole telegram (R190). -/
theorem isWhole_serviceOctets {x : Telegram} {q : Request} (h : q.wellFormed = true) :
    isWhole (serviceOctets x q) = true := by
  rw [isWhole, field_serviceOctets h, length_serviceOctets, decide_eq_true_eq]

/-! ## The answer in its octets (R48, R178) -/

/-- Octets written over those that follow a head, within what follows (R48). -/
theorem overlay_append (a z r : List Byte) (b c : Byte) (h : r.length ≤ z.length) :
    overlay (a ++ b :: z) a.length (c :: r) = a ++ c :: (r ++ z.drop r.length) := by
  have hdrop : (a ++ b :: z).drop (a.length + (c :: r).length) = z.drop r.length := by
    rw [← List.drop_drop, List.drop_left]
    rfl
  rw [overlay, hdrop, List.take_left, List.append_assoc, List.cons_append]
  refine List.take_of_length_le ?_
  simp only [List.length_append, List.length_cons, List.length_drop]
  omega

theorem answersData_iff {r : Result} :
    r.answersData = true ↔ r = .done ∨ r = .doneClamped ∨ r = .notFound := by
  cases r <;> simp [Result.answersData, Result.granted]

/-- Data answers a request that returns data (R178). -/
theorem replyOf_of_data {s : State} {q : Request} {r : Result} {b : List Byte} (h : s.reply q = some b)
    (hr : r.answersData = true) : s.replyOf (some q) r = b := by
  simp [State.replyOf, h, hr]

/-- No other answer has reply octets (R178). -/
theorem replyOf_of_noData {s : State} {q : Request} {r : Result} (h : s.reply q = none ∨ ¬ r.answersData = true) :
    s.replyOf (some q) r = [] := by
  rcases h with h | h <;> simp [State.replyOf, h]

/-- The octets of an answer lie within the reply area of its request. -/
theorem length_replyOf_le (s : State) (q : Request) (r : Result) :
    (s.replyOf (some q) r).length ≤ replyLength q := by
  by_cases hr : r.answersData = true
  · cases h : s.reply q with
    | none => simp [replyOf_of_noData (.inl h)]
    | some b => rw [replyOf_of_data h hr, length_reply h]
  · simp [replyOf_of_noData (.inr hr)]

/-- A request as the responder finds it in its telegram (R191). -/
def requestForm (q : Request) : ServiceForm :=
  { code := codeOf q, resultAt := 7 + (parameterOctets q).length, request := some q }

/-- An answer stands behind the head of its request: the result, and what reply it has (R178). -/
theorem sent_answerPass (s : State) (f : Frame) (x : Telegram) (q : Request) :
    (s.answerPass f (serviceOctets x q) (requestForm q)).sent =
      serviceHead x q ++ BitVec.ofNat 8 (s.answer f (some q)).1.code
        :: (s.replyOf (some q) (s.answer f (some q)).1
          ++ (List.replicate (replyLength q) 0).drop (s.replyOf (some q) (s.answer f (some q)).1).length) := by
  have hcode : ∀ n, code n = [BitVec.ofNat 8 n] := fun n => by simp [code, octets]
  change overlay _ (7 + (parameterOctets q).length) (code _ ++ s.replyOf (some q) (s.answer f (some q)).1) = _
  rw [hcode, List.singleton_append, serviceOctets_eq, ← length_serviceHead x q]
  refine overlay_append _ _ _ _ _ ?_
  rw [List.length_replicate]
  exact length_replyOf_le s q _

theorem content_answerPass {s : State} {f : Frame} {x : Telegram} {q : Request} (h : q.wellFormed = true) :
    (s.answerPass f (serviceOctets x q) (requestForm q)).content =
      some (.service (codeOf q) (some q) (s.answer f (some q)).1 (s.answer f (some q)).2 s.checker.loads) :=
  if_pos (isWhole_serviceOctets h)

/-! ## A service row (R44, R177, R178) -/

/-- What a service telegram within the limits becomes: an answer, or octets that pass (R177). -/
def serviceOpened (s : State) (f : Frame) (x : Telegram) (q : Request) : OpenTelegram :=
  if s.handsOn f x.address.toNat x.result then s.answerPass f (serviceOctets x q) (requestForm q)
  else f.passing (serviceOctets x q) s.capture none

theorem handsOn_iff {s : State} {f : Frame} {a : Nat} {r : Byte} :
    s.handsOn f a r = true ↔ f.processed = true ∧ a = s.service.stationAddress ∧ r = 0x00 := by
  simp [State.handsOn, State.isStation, and_assoc]

theorem serviceOpened_of_handsOn {s : State} {f : Frame} {x : Telegram} (q : Request)
    (h : s.handsOn f x.address.toNat x.result = true) :
    serviceOpened s f x q = s.answerPass f (serviceOctets x q) (requestForm q) := if_pos h

theorem serviceOpened_of_not_handsOn {s : State} {f : Frame} {x : Telegram} (q : Request)
    (h : ¬ s.handsOn f x.address.toNat x.result = true) :
    serviceOpened s f x q = f.passing (serviceOctets x q) s.capture none := if_neg h

/-- Answered or not, a service telegram is kept as received, with the capture of its arrival (R76). -/
theorem serviceOpened_received (s : State) (f : Frame) (x : Telegram) (q : Request) :
    (serviceOpened s f x q).received = serviceOctets x q ∧ (serviceOpened s f x q).capture = s.capture := by
  unfold serviceOpened
  split <;> exact ⟨rfl, rfl⟩

/-- Within the limits a service telegram is opened (R44). -/
theorem passRequest_of_mayParse {s : State} {x : Telegram} {q : Request} {f : Frame}
    (hf : (s.port x.port).frame = some f) (h : f.mayParse (serviceOctets x q) = true) :
    s.passRequest x q = s.setFrame x.port (f.open_ (serviceOpened s f x q)) := by
  simp [State.passRequest, hf, h, serviceOpened, requestForm]

/-- Beyond the limits its octets join those of the frame (R44). -/
theorem passRequest_of_not_mayParse {s : State} {x : Telegram} {q : Request} {f : Frame}
    (hf : (s.port x.port).frame = some f) (ht : f.telegram = none) (h : ¬ f.mayParse (serviceOctets x q) = true) :
    s.passRequest x q = s.setFrame x.port (f.pass (serviceOctets x q)) := by
  simp [State.passRequest, hf, h, Frame.flush, ht]

/-- A service telegram is never too short to be opened (R44). -/
theorem mayParse_serviceOctets {f : Frame} (h : f.telegram = none) (x : Telegram) (q : Request) :
    f.mayParse (serviceOctets x q) = true ↔
      field f.received 12 2 = 0x9A42 ∧ f.parsed < field f.received 16 1 ∧ f.parsed < 64 := by
  have hl : 6 ≤ (serviceOctets x q).length := by
    rw [length_serviceOctets]
    omega
  rw [mayParse_iff h]
  tauto

/-- A service row passes its request, in its delay (R177). -/
theorem exec_of_request {i : Instr} {x : Telegram} {q : Request} (h : i.request = some (x, q)) {s : State}
    (hr : s.inReset = false) : exec i s = .next ((s.advance x.dt).passRequest x q) := by
  have htimed : exec i s = s.timed x.dt (fun u => u.passRequest x q) := by
    cases i <;> cases h <;> rfl
  rw [htimed]
  exact timed_of_running hr _ _

/-- A service row is well formed when its request is (R191). -/
theorem wellFormed_of_request {i : Instr} {x : Telegram} {q : Request} (h : i.request = some (x, q)) :
    i.wellFormed = q.wellFormed := by
  cases i <;> cases h <;> rfl

end Sys2Proof.Laws

namespace Sys2Proof.Proofs

open Sys2Proof Sys2Proof.Machine Sys2Proof.Laws

/-- Settles O45: the parse limits, then whether the telegram is handed to the responder. -/
theorem requestIsAnsweredAsItPasses : Obligations.RequestIsAnsweredAsItPasses := by
  intro i x q s f hi hw hr hf ht within
  have hf' : ((s.advance x.dt).port x.port).frame = some f := by simpa using hf
  have hparse : f.mayParse (serviceOctets x q) = true ↔ within := mayParse_serviceOctets ht x q
  have hq : q.wellFormed = true := (wellFormed_of_request hi).symm.trans hw
  refine ⟨fun hout => ?_, fun hin => ?_⟩
  · rw [exec_of_request hi hr, passRequest_of_not_mayParse hf' ht (mt hparse.mp hout), setFrame_eq, port_advance]
    rfl
  · obtain ⟨hreceived, hcapture⟩ := serviceOpened_received (s.advance x.dt) f x q
    refine ⟨_, f.open_ (serviceOpened (s.advance x.dt) f x q), serviceOpened (s.advance x.dt) f x q,
      exec_of_request hi hr, ?_⟩
    rw [passRequest_of_mayParse hf' (hparse.mpr hin), setFrame_eq]
    refine ⟨by simp, rfl, rfl, rfl, hreceived, hcapture, fun hp ha h0 => ?_, fun hnot => ?_, by simp,
      setPort_sameBut _ _ _⟩
    · rw [serviceOpened_of_handsOn (s := s.advance x.dt) q (handsOn_iff.mpr ⟨hp, ha, h0⟩)]
      have hsent := sent_answerPass (s.advance x.dt) f x q
      have hhead := length_serviceHead x q
      refine ⟨((s.advance x.dt).answer f (some q)).1, ((s.advance x.dt).answer f (some q)).2, rfl, rfl, content_answerPass hq, ?_, ?_, fun b hd hb => ?_, fun hn => ?_⟩
      · rw [hsent, serviceOctets_eq, List.take_left' hhead, List.take_left' hhead]
      · simp [hsent, ← hhead]
      · rw [hsent, ← hhead, replyOf_of_data hb (answersData_iff.mpr hd), length_reply hb]
        simp
      · rw [hsent, serviceOctets_eq, ← hhead, replyOf_of_noData (hn.imp_right (mt answersData_iff.mp))]
        simp
    · have hnotHanded : ¬ (s.advance x.dt).handsOn f x.address.toNat x.result = true := by
        intro hh
        obtain ⟨hp, ha, h0⟩ := handsOn_iff.mp hh
        exact hnot.elim (by simp [hp]) (·.elim (absurd ha) (absurd h0))
      rw [serviceOpened_of_not_handsOn q hnotHanded]
      exact ⟨rfl, rfl, rfl⟩

end Sys2Proof.Proofs
end

section
/-! SUPPORT. Lists kept in ascending order of a key, and the element table and the timetable store as such lists (R61,
R125). -/

namespace Sys2Proof.Laws

open Sys2Proof Sys2Proof.Machine

/-! ## Lists in ascending order of a key -/

theorem ascending_iff_pairwise (l : List Nat) : ascending l ↔ l.Pairwise (· < ·) := by
  rw [← List.isChain_iff_pairwise]
  induction l with
  | nil => simp [ascending]
  | cons a l ih =>
    cases l with
    | nil => simp [ascending]
    | cons b l => rw [ascending, ih, List.isChain_cons_cons]

/-- A list is in ascending order of a key. -/
def keyed {α : Type} (key : α → Nat) (l : List α) : Prop := l.Pairwise fun x y => key x < key y

theorem ascending_map_iff {α : Type} (key : α → Nat) (l : List α) : ascending (l.map key) ↔ keyed key l := by
  rw [ascending_iff_pairwise, List.pairwise_map]
  rfl

/-- Inserts a member in ascending order of a key, replacing one of the same key: what `insertElement` does by address, and
`insertEntry` by id. -/
def insertKeyed {α : Type} (key : α → Nat) (x : α) : List α → List α
  | [] => [x]
  | y :: l => if key x < key y then x :: y :: l else if key x = key y then x :: l else y :: insertKeyed key x l

theorem insertElement_eq (r : ElementRecord) (l : List ElementRecord) :
    insertElement r l = insertKeyed ElementRecord.address r l := by
  induction l with
  | nil => rfl
  | cons x l ih => simp only [insertElement, insertKeyed, ih]

theorem insertEntry_eq (e : TimetableEntry) (l : List TimetableEntry) :
    insertEntry e l = insertKeyed TimetableEntry.id e l := by
  induction l with
  | nil => rfl
  | cons x l ih => simp only [insertEntry, insertKeyed, ih]

section
variable {α : Type} {key : α → Nat} {l : List α} (h : keyed key l)
include h

/-- One member for each key. -/
theorem eq_of_key_eq {x y : α} (hx : x ∈ l) (hy : y ∈ l) (hk : key x = key y) : x = y :=
  List.inj_on_of_nodup_map (List.pairwise_map.mpr (h.imp Nat.ne_of_lt)) hx hy hk

theorem find?_key_eq_some_iff {a : Nat} {x : α} : l.find? (fun y => key y == a) = some x ↔ x ∈ l ∧ key x = a := by
  refine ⟨fun hf => ⟨List.mem_of_find?_eq_some hf, by simpa using List.find?_some hf⟩, fun ⟨hx, ha⟩ => ?_⟩
  cases hf : l.find? (fun y => key y == a) with
  | none => exact absurd ha (by simpa using List.find?_eq_none.mp hf x hx)
  | some y =>
    have hy : key y = a := by simpa using List.find?_some hf
    rw [eq_of_key_eq h hx (List.mem_of_find?_eq_some hf) (ha.trans hy.symm)]

/-- The member found from a key on is that of the least such key. -/
theorem find?_from_key_eq_some_iff {a : Nat} {x : α} :
    l.find? (fun y => decide (a ≤ key y)) = some x ↔ x ∈ l ∧ a ≤ key x ∧ ∀ y ∈ l, a ≤ key y → key x ≤ key y := by
  have least : ∀ y, l.find? (fun y => decide (a ≤ key y)) = some y → y ∈ l ∧ a ≤ key y ∧ ∀ z ∈ l, a ≤ key z → key y ≤ key z := by
    intro y hf
    obtain ⟨hy, before, after, rfl, hbefore⟩ := List.find?_eq_some_iff_append.mp hf
    refine ⟨by simp, by simpa using hy, fun z hz haz => ?_⟩
    obtain hz | rfl | hz : z ∈ before ∨ z = y ∨ z ∈ after := by simpa using hz
    · have := hbefore z hz
      simp at this
      omega
    · exact le_rfl
    · exact ((List.pairwise_cons.mp (List.pairwise_append.mp h).2.1).1 z hz).le
  refine ⟨least x, fun ⟨hx, ha, hleast⟩ => ?_⟩
  cases hf : l.find? (fun y => decide (a ≤ key y)) with
  | none => exact absurd ha (by simpa using List.find?_eq_none.mp hf x hx)
  | some y =>
    obtain ⟨hy, hay, hyleast⟩ := least y hf
    rw [eq_of_key_eq h hx hy (le_antisymm (hleast y hy hay) (hyleast x hx ha))]

/-- An insertion puts its member in place of the one of its key. -/
theorem insertKeyed_perm (x : α) : (insertKeyed key x l).Perm (x :: l.filter fun y => decide (key y ≠ key x)) := by
  induction l with
  | nil => exact List.Perm.refl _
  | cons y l ih =>
    obtain ⟨hy, hl⟩ := List.pairwise_cons.mp h
    have above (hk : key x ≤ key y) : l.filter (fun z => decide (key z ≠ key x)) = l := by
      refine List.filter_eq_self.mpr fun z hz => ?_
      have := hy z hz
      simp only [decide_eq_true_eq]
      omega
    unfold insertKeyed
    split
    · next hk => rw [List.filter_cons_of_pos (by simp; omega), above hk.le]
    · split
      · next hk => rw [List.filter_cons_of_neg (by simp [hk]), above hk.le]
      · next hne =>
        rw [List.filter_cons_of_pos (by simp; omega)]
        exact ((ih hl).cons y).trans (List.Perm.swap x y _)

theorem mem_insertKeyed_iff {x y : α} : y ∈ insertKeyed key x l ↔ y = x ∨ (y ∈ l ∧ key y ≠ key x) := by
  rw [(insertKeyed_perm h x).mem_iff]
  simp

theorem keyed_insertKeyed (x : α) : keyed key (insertKeyed key x l) := by
  induction l with
  | nil => exact List.pairwise_singleton _ _
  | cons y l ih =>
    obtain ⟨hy, hl⟩ := List.pairwise_cons.mp h
    unfold insertKeyed
    split
    · next hk =>
      refine List.pairwise_cons.mpr ⟨fun z hz => ?_, h⟩
      obtain rfl | hz := List.mem_cons.mp hz
      · exact hk
      · exact hk.trans (hy z hz)
    · split
      · next hk => exact List.pairwise_cons.mpr ⟨fun z hz => hk ▸ hy z hz, hl⟩
      · next hlt hne =>
        refine List.pairwise_cons.mpr ⟨fun z hz => ?_, ih hl⟩
        obtain rfl | ⟨hz, -⟩ := (mem_insertKeyed_iff hl).mp hz
        · omega
        · exact hy z hz

/-- The member of a key is the only one of it. -/
theorem filter_key_eq {x : α} (hx : x ∈ l) : l.filter (fun y => decide (key y = key x)) = [x] := by
  induction l with
  | nil => cases hx
  | cons y l ih =>
    obtain ⟨hy, hl⟩ := List.pairwise_cons.mp h
    obtain rfl | hx := List.mem_cons.mp hx
    · rw [List.filter_cons_of_pos (by simp), List.filter_eq_nil_iff.mpr]
      intro z hz
      have := hy z hz
      simp only [decide_eq_true_eq]
      omega
    · rw [List.filter_cons_of_neg (by simpa using (hy x hx).ne), ih hl hx]

/-- Those of the other keys, where one of a key is taken out. -/
theorem length_filter_key_ne {x : α} (hx : x ∈ l) (p : α → Bool) :
    (l.filter p).length = ((l.filter fun y => decide (key y ≠ key x)).filter p).length + if p x then 1 else 0 := by
  have hsplit := List.countP_eq_countP_filter_add l p fun y => decide (key y ≠ key x)
  have hone : l.filter (fun y => !decide (key y ≠ key x)) = [x] := by
    simpa using filter_key_eq h hx
  rw [hone, List.countP_singleton] at hsplit
  simpa only [← List.countP_eq_length_filter] using hsplit

/-- An insertion lengthens the list by one where it replaces no member. -/
theorem length_insertKeyed (x : α) :
    (insertKeyed key x l).length = l.length + if (l.find? fun y => key y == key x).isSome then 0 else 1 := by
  rw [(insertKeyed_perm h x).length_eq, List.length_cons]
  cases hf : l.find? (fun y => key y == key x) with
  | none =>
    have hkept : l.filter (fun y => decide (key y ≠ key x)) = l :=
      List.filter_eq_self.mpr fun y hy => by simpa using List.find?_eq_none.mp hf y hy
    rw [hkept]
    rfl
  | some y =>
    obtain ⟨hy, hk⟩ := (find?_key_eq_some_iff h).mp hf
    have hone := length_filter_key_ne h hy fun _ => true
    simp only [List.filter_true, if_true, hk] at hone
    simp [hone]

end

end Sys2Proof.Laws
end

section
/-! SUPPORT. What every operation of the part leaves of the element table and the timetable store, but for the requests
that load, unload and erase: addresses, reference counts, timetable-point flags, ids, and the elements that entries name. -/

namespace Sys2Proof.Laws

open Sys2Proof Sys2Proof.Machine

/-! ## Views of the tables (R61, R64, R72, R125) -/

/-- The timetable-point flag of a record, off for a point (R62). -/
def pointFlag (r : ElementRecord) : Bool :=
  match r.part with
  | .signal g => g.timetablePoint
  | .point _ => false

/-- The cleared-for of a record, if it is a signal that has one (R114). -/
def clearedForOf (r : ElementRecord) : Option TrainTag :=
  match r.part with
  | .signal g => g.clearedFor
  | .point _ => none

/-- What the order of the tables and the reference counts read of a record. -/
def tableFields (r : ElementRecord) : Nat × Nat × Bool := (r.address, r.references, pointFlag r)

/-- What they read of a timetable entry. -/
def entryFields (e : TimetableEntry) : Nat × Nat := (e.id, e.element)

/-- The contexts of a record that no record has in CONFIG (R72). -/
def contexts (r : ElementRecord) : Option Movement × Option Confirmation × Option Nat × Option TrainTag :=
  (r.movement, r.confirmation, r.silenceDeadline, clearedForOf r)

/-- What the order of the tables and the reference counts read of the part, with its operating state. -/
def tableView (s : State) : List (Nat × Nat × Bool) × List (Nat × Nat) × OpState :=
  (s.elements.map tableFields, s.checker.store.map entryFields, s.service.state)

/-- The view of the tables with the contexts. -/
def fullView (s : State) :
    (List (Nat × Nat × Bool) × List (Nat × Nat) × OpState)
      × List (Option Movement × Option Confirmation × Option Nat × Option TrainTag) :=
  (tableView s, s.elements.map contexts)

theorem tableView_of_fullView {s t : State} (h : fullView t = fullView s) : tableView t = tableView s :=
  congrArg Prod.fst h

theorem fullView_of_eq {s t : State} (he : t.elements = s.elements) (hc : t.checker = s.checker)
    (hs : t.service = s.service) : fullView t = fullView s := by
  simp [fullView, tableView, he, hc, hs]

theorem fullView_of_sameBut {s t : State} {l : List Block} (h : sameBut s t l)
    (hl : Block.elements ∉ l ∧ Block.checker ∉ l ∧ Block.service ∉ l := by decide) : fullView t = fullView s :=
  fullView_of_eq (h .elements hl.1) (h .checker hl.2.1) (h .service hl.2.2)

/-- A latched fault is no part of the views. -/
theorem fullView_of_sameElements {s t : State} (h : sameElements s t) (hc : t.checker = s.checker)
    (hs : t.service = s.service) : fullView t = fullView s := by
  have unlatched : ∀ u : State,
      fullView u = ((((u.elements.map ElementRecord.unlatched).map tableFields, u.checker.store.map entryFields,
        u.service.state)), (u.elements.map ElementRecord.unlatched).map contexts) := by
    intro u
    simp only [List.map_map]
    rfl
  rw [unlatched, unlatched, h, hc, hs]

/-- Changing records outside what the views read leaves them. -/
theorem fullView_modifyElement (s : State) (a : Nat) {f : ElementRecord → ElementRecord}
    (hf : ∀ r, tableFields (f r) = tableFields r) (hc : ∀ r, contexts (f r) = contexts r) :
    fullView (s.modifyElement a f) = fullView s := by
  have key : ∀ {β : Type} (g : ElementRecord → β), (∀ r, g (f r) = g r) →
      (s.modifyElement a f).elements.map g = s.elements.map g := by
    intro β g hg
    simp only [State.modifyElement, List.map_map]
    refine List.map_congr_left fun r _ => ?_
    by_cases h : r.address = a <;> simp [h, hg]
  simp [fullView, tableView, key _ hf, key _ hc]

theorem tableView_modifyElement (s : State) (a : Nat) {f : ElementRecord → ElementRecord}
    (hf : ∀ r, tableFields (f r) = tableFields r) : tableView (s.modifyElement a f) = tableView s := by
  have key : (s.modifyElement a f).elements.map tableFields = s.elements.map tableFields := by
    simp only [State.modifyElement, List.map_map]
    refine List.map_congr_left fun r _ => ?_
    by_cases h : r.address = a <;> simp [h, hf]
  simp [tableView, key]

/-- Changing the state or the match of an entry leaves the views. -/
theorem fullView_modifyEntry (s : State) (i : Nat) {f : TimetableEntry → TimetableEntry}
    (hf : ∀ e, entryFields (f e) = entryFields e) : fullView (s.modifyEntry i f) = fullView s := by
  have key : (s.modifyEntry i f).checker.store.map entryFields = s.checker.store.map entryFields := by
    simp only [State.modifyEntry, List.map_map]
    refine List.map_congr_left fun e _ => ?_
    by_cases h : e.id = i <;> simp [h, hf]
  simp [fullView, tableView, key]

/-! ## The event record and the alarm unit (spec/09) -/

@[simp] theorem attempt_fullView (s : State) (d : Draft) : fullView (s.attempt d) = fullView s :=
  fullView_of_eq (by simp) (by simp) (by simp)

@[simp] theorem note_fullView (s : State) (c : Capture) (b : EntryBody) (a : Bool) :
    fullView (s.note c b a) = fullView s := attempt_fullView s _

@[simp] theorem gapRule_fullView (s : State) : fullView s.gapRule = fullView s :=
  fullView_of_eq (by simp) (by simp) (by simp)

@[simp] theorem raise_fullView (s : State) (r : Raise) : fullView (s.raise r) = fullView s :=
  fullView_of_sameElements (raise_sameElements s r) (by simp) (by simp)

@[simp] theorem latch_fullView (s : State) (t : LatchTarget) (k : LatchKind) (c : Capture) :
    fullView (s.latch t k c) = fullView s :=
  fullView_of_sameElements (latch_sameElements s t k c) (by simp) (by simp)

@[simp] theorem elementFault_fullView (s : State) (a : Nat) (c : Capture) (d : FaultDetail) (t : Bool) :
    fullView (s.elementFault a c d t) = fullView s := raise_fullView s _

@[simp] theorem verdict_fullView (s : State) (c : Capture) (v : VerdictEntry) :
    fullView (s.verdict c v) = fullView s := by
  unfold State.verdict
  split <;> simp

/-! ## The timetable checker (spec/08) -/

@[simp] theorem withdraw_fullView (s : State) (e : TimetableEntry) (r : WithdrawReason) :
    fullView (s.withdraw e r) = fullView s :=
  (verdict_fullView _ _ _).trans (fullView_modifyEntry s _ fun _ => rfl)

@[simp] theorem trainEvent_fullView (s : State) (v : TrainEvent) : fullView (s.trainEvent v) = fullView s := by
  unfold State.trainEvent
  dsimp only
  split
  · exact (verdict_fullView _ _ _).trans (fullView_modifyEntry s _ fun _ => rfl)
  · simp

theorem expireEntry_fullView (s : State) (e : TimetableEntry) : fullView (s.expireEntry e) = fullView s := by
  unfold State.expireEntry
  split
  · simp
  · exact (verdict_fullView _ _ _).trans (fullView_modifyEntry s _ fun _ => rfl)

@[simp] theorem expireDue_fullView (s : State) : fullView s.expireDue = fullView s := by
  unfold State.expireDue
  split
  · exact foldl_same fullView _ expireEntry_fullView _ s
  · rfl

@[simp] theorem setTag_fullView (s : State) (p : Period) (t : TagState) : fullView (s.setTag p t) = fullView s := by
  cases p <;> rfl

theorem drainTag_fullView (s : State) (p : Period) : fullView (s.drainTag p) = fullView s := by
  unfold State.drainTag
  dsimp only
  rw [foldl_same fullView _ fun u e => withdraw_fullView u e .drainEnd, note_fullView]
  exact setTag_fullView s p .standby

@[simp] theorem takeDrainEnd_fullView (s : State) : fullView s.takeDrainEnd = fullView s := by
  unfold State.takeDrainEnd
  split
  · split
    · exact drainTag_fullView s _
    · rfl
  · rfl

@[simp] theorem takeChangeover_fullView (s : State) : fullView s.takeChangeover = fullView s := by
  unfold State.takeChangeover
  split
  · split
    · rw [takeDrainEnd_fullView, note_fullView]
      exact (setTag_fullView _ _ _).trans (setTag_fullView s _ _)
    · rfl
  · rfl

/-! ## The time base (spec/01) -/

@[simp] theorem evalQuality_fullView (s : State) : fullView s.evalQuality = fullView s := by
  unfold State.evalQuality State.qualityEntry
  split
  · rfl
  · dsimp only
    split <;> simp <;> rfl

@[simp] theorem settleQuality_fullView (s : State) : fullView s.settleQuality = fullView s := by
  unfold State.settleQuality
  dsimp only
  split <;> simp

@[simp] theorem takeOffset_fullView (s : State) : fullView s.takeOffset = fullView s :=
  fullView_of_sameBut (takeOffset_sameBut s)

theorem takePassed_fullView (s : State) : fullView s.takePassed = fullView s := by
  have instant : ∀ (u : State) (o : InstantOwner), fullView (u.takeInstant o) = fullView u := by
    intro u o
    cases o <;> simp [State.takeInstant]
  unfold State.takePassed
  rw [foldl_same fullView _ instant]
  rfl

theorem moveCentre_fullView (s : State) (e : Int) : fullView (s.moveCentre e) = fullView s :=
  fullView_of_sameBut (moveCentre_sameBut s e)

/-- Writing the time base leaves the views. -/
theorem fullView_withTime (s : State) (t : TimeBase) : fullView { s with time := t } = fullView s := rfl

theorem markStages_fullView (s : State) (m : AcceptedMark) : fullView (s.markStages m).1 = fullView s := by
  obtain h | h | ⟨t, h⟩ := markStages_cases s m <;> rw [h]
  · rw [State.firstSet, note_fullView, fullView_withTime, moveCentre_fullView]
  · rw [State.step_, note_fullView, fullView_withTime, moveCentre_fullView, gapRule_fullView]
  · rfl

theorem acceptedMark_fullView (s : State) (m : AcceptedMark) : fullView (s.acceptedMark m) = fullView s := by
  unfold State.acceptedMark
  dsimp only
  split
  · rw [takePassed_fullView, evalQuality_fullView, markStages_fullView]
  · split
    · rw [expireDue_fullView, evalQuality_fullView, markStages_fullView]
    · rw [evalQuality_fullView, markStages_fullView]

theorem holdoverSecond_fullView (s : State) : fullView s.holdoverSecond = fullView s := by
  unfold State.holdoverSecond
  split
  · split
    · rw [settleQuality_fullView]
      rfl
    · rfl
  · rfl

theorem scaleEndHold_fullView (s : State) : fullView s.scaleEndHold = fullView s := by
  unfold State.scaleEndHold
  split
  · rw [settleQuality_fullView]
    rfl
  · rfl

theorem secondMarkStart_fullView (s : State) : fullView s.secondMarkStart = fullView s := by
  unfold State.secondMarkStart
  split
  · split <;> rfl
  · rfl

theorem secondMarkFall_fullView (s : State) : fullView s.secondMarkFall = fullView s := by
  unfold State.secondMarkFall
  split <;> rfl

theorem setLocalOffset_fullView (s : State) (o : Option Int) (i : Option Instant) :
    fullView (s.setLocalOffset o i) = fullView s := by
  unfold State.setLocalOffset
  split
  · rfl
  · rw [note_fullView]
    rfl
  · rw [takeOffset_fullView]
    rfl

/-! ## The reference selector (spec/02) -/

@[simp] theorem setSource_fullView (s : State) (x : Source) (v : SourceState) : fullView (s.setSource x v) = fullView s :=
  fullView_of_sameBut (setSource_sameBut s x v)

@[simp] theorem setWired_fullView (s : State) (w : Wired) (v : WiredState) : fullView (s.setWired w v) = fullView s :=
  fullView_of_sameBut (setWired_sameBut s w v)

theorem select_fullView (s : State) (x : Source) (r : SelectReason) : fullView (s.select x r) = fullView s := by
  rw [State.select, raise_fullView]
  rfl

theorem loseSelection_fullView (s : State) (x : Source) : fullView (s.loseSelection x) = fullView s := by
  unfold State.loseSelection State.enterHoldover
  dsimp only
  split <;> rw [raise_fullView] <;> rfl

@[simp] theorem evalSelection_fullView (s : State) (c : Bool) : fullView (s.evalSelection c) = fullView s := by
  obtain h | ⟨y, r, h⟩ | ⟨x, h⟩ := evalSelection_cases s c <;> rw [h]
  · exact select_fullView s y r
  · exact loseSelection_fullView s x

@[simp] theorem badMark_fullView (s : State) (x : Source) : fullView (s.badMark x) = fullView s := by
  unfold State.badMark
  dsimp only
  split <;> simp

@[simp] theorem goodMark_fullView (s : State) (m : AcceptedMark) : fullView (s.goodMark m) = fullView s := by
  have selection : fullView ((countedGood s m).evalSelection false) = fullView s :=
    (evalSelection_fullView _ _).trans (setSource_fullView s _ _)
  rw [goodMark_eq, settledFrom]
  split
  · rw [acceptedMark_fullView, selection]
  · split <;> simp [selection]

theorem completeMessage_fullView (s : State) (w : Wired) (o : List Byte) :
    fullView (s.completeMessage w o) = fullView s := fullView_of_sameBut (completeMessage_sameBut s w o)

theorem referenceMessage_fullView (s : State) (w : Wired) (o : List Byte) :
    fullView (s.referenceMessage w o) = fullView s := by
  unfold State.referenceMessage
  split
  · exact completeMessage_fullView s w o
  · rfl

theorem messageOctet_fullView (s : State) (w : Wired) (b : Byte) : fullView (s.messageOctet w b) = fullView s := by
  unfold State.messageOctet
  split
  · dsimp only
    generalize (if s.octetLate w = true then [] else (s.wired w).collected) = held
    split
    · simp
    · split
      · exact completeMessage_fullView s w _
      · simp
  · rfl

theorem octetTimeout_fullView (s : State) (w : Wired) : fullView (s.octetTimeout w) = fullView s := by
  unfold State.octetTimeout State.dropPartial
  split <;> simp

theorem leadingEdge_fullView (s : State) (w : Wired) : fullView (s.leadingEdge w) = fullView s := by
  unfold State.leadingEdge
  split
  · rfl
  · split
    · dsimp only
      split <;> simp
    · simp

theorem judgeMark_fullView (s : State) (w : Wired) (m : MarkInProgress) (n : Nat) :
    fullView (s.judgeMark w m n) = fullView s := by
  unfold State.judgeMark
  dsimp only
  split <;> simp

theorem trailingEdge_fullView (s : State) (w : Wired) : fullView (s.trailingEdge w) = fullView s := by
  unfold State.trailingEdge
  dsimp only
  split <;> simp [judgeMark_fullView]

theorem widthLimit_fullView (s : State) (w : Wired) : fullView (s.widthLimit w) = fullView s := by
  unfold State.widthLimit
  split
  · split <;> simp [judgeMark_fullView]
  · rfl

theorem markDeadline_fullView (s : State) (x : Source) : fullView (s.markDeadline x) = fullView s := by
  unfold State.markDeadline
  split
  · split <;> simp
  · rfl

theorem absenceDeadline_fullView (s : State) (x : Source) : fullView (s.absenceDeadline x) = fullView s := by
  have forget : ∀ u : State, fullView (u.forgetRing x) = fullView u := by
    intro u
    cases x <;> rfl
  unfold State.absenceDeadline State.becomeAbsent
  split
  · dsimp only
    split <;> simp [forget]
  · rfl

theorem revertInstant_fullView (s : State) (x : Source) : fullView (s.revertInstant x) = fullView s := by
  unfold State.revertInstant
  split <;> simp [select_fullView]

theorem ringMark_fullView (s : State) (t : TimeSlot) (c : Capture) : fullView (s.ringMark t c) = fullView s := by
  have hfirst : fullView (if s.refs.ring.state = .absent then s
      else s.setSource .ring { s.refs.ring with markDeadline := some (c.elapsed + 1500000) }) = fullView s := by
    split <;> simp
  unfold State.ringMark
  dsimp only
  generalize (if s.refs.ring.state = .absent then s
      else s.setSource .ring { s.refs.ring with markDeadline := some (c.elapsed + 1500000) }) = u at hfirst ⊢
  split <;> split <;> simp <;> exact hfirst

theorem ringTelegram_fullView (s : State) (b : List Byte) (c : Capture) :
    fullView (s.ringTelegram b c) = fullView s := by
  unfold State.ringTelegram State.renewAbsence
  split
  · dsimp only
    split <;> split <;> simp [ringMark_fullView]
  · rfl

theorem setTimeConfig_fullView (s : State) (p : TimeConfigParams) : fullView (s.setTimeConfig p) = fullView s := by
  rw [State.setTimeConfig, settleQuality_fullView, evalSelection_fullView]
  rfl

/-! ## The clock lines (spec/10) -/

@[simp] theorem modifyLine_fullView (s : State) (l : LineId) (f : Line → Line) :
    fullView (s.modifyLine l f) = fullView s := fullView_of_eq (by simp) (by simp) (by simp)

@[simp] theorem senseShort_fullView (s : State) (l : LineId) : fullView (s.senseShort l) = fullView s := by
  unfold State.senseShort State.short State.escalate
  split
  · split
    · dsimp only
      split <;> simp
    · rfl
  · rfl

theorem startPulse_fullView (s : State) (l : LineId) : fullView (s.startPulse l) = fullView s := by
  unfold State.startPulse
  split
  · split <;> simp
  · rfl

theorem endPulse_fullView (s : State) (l : LineId) : fullView (s.endPulse l) = fullView s := by
  unfold State.endPulse State.openPulse
  split
  · split
    · split
      · simp
      · dsimp only
        split <;> simp
    · rfl
  · rfl

theorem endRetry_fullView (s : State) (l : LineId) : fullView (s.endRetry l) = fullView s := by
  unfold State.endRetry
  split <;> simp

theorem setClockLine_fullView (s : State) (p : ClockLineParams) : fullView (s.setClockLine p) = fullView s := by
  have line : ∀ l x, fullView (s.setLine l x) = fullView s :=
    fun l x => fullView_of_eq (by simp) (by simp) (by simp)
  unfold State.setClockLine
  split
  · rfl
  · dsimp only
    split <;> simp [line]

/-! ## The ring ports (spec/03) -/

@[simp] theorem modifyPort_fullView (s : State) (p : PortId) (f : Port → Port) :
    fullView (s.modifyPort p f) = fullView s := fullView_of_sameBut (modifyPort_sameBut s p f)

@[simp] theorem applyLoop_fullView (s : State) (p : PortId) : fullView (s.applyLoop p) = fullView s :=
  fullView_of_sameBut (applyLoop_sameBut s p)

theorem firstReport_fullView (s : State) (p : PortId) (up : Bool) : fullView (s.firstReport p up) = fullView s := by
  unfold State.firstReport
  split <;> simp

theorem linkUp_fullView (s : State) (p : PortId) : fullView (s.linkUp p) = fullView s := by
  unfold State.linkUp
  split
  · exact firstReport_fullView s p true
  · split
    · rfl
    · exact fullView_of_sameBut (takeLinkUp_sameBut s p)

theorem linkDown_fullView (s : State) (p : PortId) : fullView (s.linkDown p) = fullView s := by
  unfold State.linkDown
  split
  · exact firstReport_fullView s p false
  · split
    · exact fullView_of_sameBut (takeLinkDown_sameBut s p)
    · rfl

theorem setFrame_fullView (s : State) (p : PortId) (f : Frame) : fullView (s.setFrame p f) = fullView s :=
  modifyPort_fullView s p _

theorem telegramParse_fullView (s : State) (p : PortId) (o : List Byte) : fullView (s.telegramParse p o) = fullView s := by
  unfold State.telegramParse
  split
  · rfl
  · exact setFrame_fullView s p _

theorem passRequest_fullView (s : State) (t : Telegram) (q : Request) : fullView (s.passRequest t q) = fullView s := by
  unfold State.passRequest
  split
  · rfl
  · dsimp only
    split <;> exact setFrame_fullView s _ _

theorem telegramCheck_fullView (s : State) (p : PortId) (c : Word16) : fullView (s.telegramCheck p c) = fullView s := by
  unfold State.telegramCheck
  split
  · rfl
  · split <;> exact setFrame_fullView s p _

theorem cut_fullView (s : State) (p : PortId) (f : Frame) : fullView (s.cut p f) = fullView s :=
  fullView_of_sameBut (cut_sameBut s p f)

theorem frameCut_fullView (s : State) (p : PortId) (o : List Byte) : fullView (s.frameCut p o) = fullView s := by
  unfold State.frameCut
  split
  · rfl
  · dsimp only
    split
    · exact cut_fullView s p _
    · exact setFrame_fullView s p _

theorem portSilence_fullView (s : State) (p : PortId) : fullView (s.portSilence p) = fullView s := by
  have port : ∀ x, fullView (s.setPort p x) = fullView s := fun x => fullView_of_sameBut (setPort_sameBut s p x)
  unfold State.portSilence
  dsimp only
  split <;> simp [port]

theorem lastOctetLeft_fullView (s : State) (p : PortId) : fullView (s.lastOctetLeft p) = fullView s := by
  unfold State.lastOctetLeft
  split <;> simp

theorem setRingPort_fullView (s : State) (p m l : Nat) : fullView (s.setRingPort p m l) = fullView s := by
  unfold State.setRingPort
  split <;> simp

end Sys2Proof.Laws
end

section
/-! SUPPORT. Supervision, element telegrams and the modes of elements: what they leave of the tables, and the contexts that
CONFIG keeps away (R72). -/

namespace Sys2Proof.Laws

open Sys2Proof Sys2Proof.Machine

/-! ## Supervision leaves the tables (spec/06, spec/07) -/

theorem tableFields_mapPoint (r : ElementRecord) (f : PointPart → PointPart) :
    tableFields (r.mapPoint f) = tableFields r := by
  unfold ElementRecord.mapPoint
  split
  · next p hp => simp [tableFields, pointFlag, hp]
  · rfl

theorem tableFields_mapSignal (r : ElementRecord) {f : SignalPart → SignalPart}
    (hf : ∀ g, (f g).timetablePoint = g.timetablePoint) : tableFields (r.mapSignal f) = tableFields r := by
  unfold ElementRecord.mapSignal
  split
  · rfl
  · next g hg => simp [tableFields, pointFlag, hg, hf]

@[simp] theorem note_tableView (s : State) (c : Capture) (b : EntryBody) (a : Bool) :
    tableView (s.note c b a) = tableView s := tableView_of_fullView (note_fullView s c b a)

@[simp] theorem elementFault_tableView (s : State) (a : Nat) (c : Capture) (d : FaultDetail) (t : Bool) :
    tableView (s.elementFault a c d t) = tableView s := tableView_of_fullView (elementFault_fullView s a c d t)

@[simp] theorem trainEvent_tableView (s : State) (v : TrainEvent) : tableView (s.trainEvent v) = tableView s :=
  tableView_of_fullView (trainEvent_fullView s v)

@[simp] theorem modifyPoint_tableView (s : State) (a : Nat) (f : PointPart → PointPart) :
    tableView (s.modifyPoint a f) = tableView s := tableView_modifyElement s a fun r => tableFields_mapPoint r f

theorem modifySignal_tableView (s : State) (a : Nat) {f : SignalPart → SignalPart}
    (hf : ∀ g, (f g).timetablePoint = g.timetablePoint) : tableView (s.modifySignal a f) = tableView s :=
  tableView_modifyElement s a fun r => tableFields_mapSignal r hf

@[simp] theorem setMovement_tableView (s : State) (a : Nat) (m : Option Movement) :
    tableView (s.setMovement a m) = tableView s := modifyPoint_tableView s a _

@[simp] theorem endMovement_tableView (s : State) (a : Nat) (m : Movement) (o : MovementOutcome) (c : Capture)
    (d : Option Nat) (f : Option ActionKind) : tableView (s.endMovement a m o c d f) = tableView s := by
  simp [State.endMovement]

@[simp] theorem startDeadline_tableView (s : State) (a : Nat) : tableView (s.startDeadline a) = tableView s := by
  unfold State.startDeadline
  split
  · split
    · split
      · split <;> simp
      · rfl
    · rfl
  · rfl

@[simp] theorem failToDetect_tableView (s : State) (r : ElementRecord) (p : PointPart) (m : Movement) (c : Capture) :
    tableView (s.failToDetect r p m c) = tableView s := by
  simp [State.failToDetect]

@[simp] theorem runDeadline_tableView (s : State) (a : Nat) : tableView (s.runDeadline a) = tableView s := by
  unfold State.runDeadline
  split
  · split
    · split
      · split
        · split <;> simp
        · rfl
      · rfl
    · rfl
  · rfl

theorem judgeHistory_tableView (s : State) (a : Nat) (h : List Nat) (d w : Nat) (c : Capture) :
    tableView (s.judgeHistory a h d w c) = tableView s := by
  unfold State.judgeHistory
  dsimp only
  split
  · split <;> simp
  · rfl

@[simp] theorem settleDeadline_tableView (s : State) (a : Nat) : tableView (s.settleDeadline a) = tableView s := by
  unfold State.settleDeadline State.complete
  split
  · split
    · split
      · split <;> simp [judgeHistory_tableView]
      · rfl
    · rfl
  · rfl

theorem takeReached_tableView (s : State) (a : Nat) : tableView (s.takeReached a) = tableView s := by
  unfold State.takeReached
  split
  · dsimp only
    split <;> simp <;> rfl
  · simp

theorem pointCommand_tableView (s : State) (a : Nat) (t : Target) (c : Capture) :
    tableView (s.pointCommand a t c) = tableView s := by
  have reversed : ∀ p, tableView (s.reverse a p c) = tableView s := by
    intro p
    unfold State.reverse
    split <;> simp
  unfold State.pointCommand
  split
  · split
    · dsimp only
      split <;> simp [takeReached_tableView, reversed]
    · rfl
  · rfl

theorem settlingStatus_tableView (s : State) (r : ElementRecord) (p : PointPart) (m : Movement) (d : Detected)
    (c : Capture) : tableView (s.settlingStatus r p m d c) = tableView s := by
  unfold State.settlingStatus
  split
  · rfl
  · split
    · simp
    · split <;> simp

theorem pointStatus_tableView (s : State) (a : Nat) (v : Option Value) (d : Detected) (h : Bool) (c : Capture) :
    tableView (s.pointStatus a v d h c) = tableView s := by
  have moving : ∀ r p m, tableView (s.movementStatus r p m d c) = tableView s := by
    intro r p m
    unfold State.movementStatus State.moveOn
    split <;> simp [settlingStatus_tableView]
  have idle : ∀ r, tableView (s.idleStatus r v d h c) = tableView s := by
    intro r
    unfold State.idleStatus
    split
    · rfl
    · simp
    · rfl
    · split <;> simp
    · rfl
  unfold State.pointStatus
  split
  · split
    · split
      · split <;> simp [moving]
      · exact idle _
    · rfl
  · rfl

@[simp] theorem confirmDeadline_tableView (s : State) (a : Nat) : tableView (s.confirmDeadline a) = tableView s := by
  unfold State.confirmDeadline
  split
  · split
    · split
      · split
        · dsimp only
          split <;> simp [modifySignal_tableView]
        · rfl
      · rfl
    · rfl
  · rfl

theorem signalCommand_tableView (s : State) (a k : Nat) (t : Option TrainTag) (c : Capture) :
    tableView (s.signalCommand a k t c) = tableView s := by
  rw [State.signalCommand, confirmDeadline_tableView]
  refine modifySignal_tableView s a fun g => ?_
  unfold SignalPart.commanded
  split <;> rfl

theorem giveTrainEvent_tableView (s : State) (a : Nat) (g : SignalPart) (t : TrainTag) (k : CheckKind) (c : Capture) :
    tableView (s.giveTrainEvent a g t k c) = tableView s := by
  unfold State.giveTrainEvent
  split <;> simp

theorem judgeTrain_tableView (s : State) (r : ElementRecord) (g : SignalPart) (n : Nat) (l : Lamp) (c : Capture) :
    tableView (s.judgeTrain r g n l c) = tableView s := by
  have confirmed : ∀ k, tableView (s.confirm r.address g k c) = tableView s := by
    intro k
    unfold State.confirm
    dsimp only
    split
    · split <;> simp [giveTrainEvent_tableView, modifySignal_tableView]
    · simp [modifySignal_tableView]
  have passed : ∀ t, tableView (s.pass r.address g t c) = tableView s := by
    intro t
    simp [State.pass, giveTrainEvent_tableView, modifySignal_tableView]
  unfold State.judgeTrain
  split
  · split
    · exact confirmed _
    · split
      · split <;> simp [passed]
      · rfl
  · split <;> simp [passed]
  · rfl

theorem signalStatus_tableView (s : State) (a : Nat) (v : Option Value) (n : Nat) (l : Lamp) (h : Bool) (c : Capture) :
    tableView (s.signalStatus a v n l h c) = tableView s := by
  have lamp : ∀ r, tableView (s.judgeLamp r v n l c) = tableView s := by
    intro r
    unfold State.judgeLamp
    split <;> simp
  have drop : ∀ (u : State) r g, tableView (u.judgeDrop r g v n h c) = tableView u := by
    intro u r g
    unfold State.judgeDrop
    split
    · split <;> simp
    · rfl
  unfold State.signalStatus
  split
  · split
    · dsimp only
      rw [judgeTrain_tableView]
      split <;> simp [lamp, drop]
    · rfl
  · rfl

theorem handOff_tableView (s : State) (m : ElementMode) (t : ElementTelegram) (old : Option Value) (v : Value) (h : Bool) :
    tableView (s.handOff m t old v h) = tableView s := by
  unfold State.handOff
  split
  · split <;> simp [pointCommand_tableView]
  · exact pointStatus_tableView s _ _ _ _ _
  · split <;> simp [signalCommand_tableView]
  · exact signalStatus_tableView s _ _ _ _ _ _
  · split <;> simp [signalCommand_tableView]
  · exact signalStatus_tableView s _ _ _ _ _ _
  · rfl

/-! ## The tables in order -/

/-- The tables are in order, no context stands in CONFIG, and reference counts are true (R61, R64, R72, R125). -/
def inOrder (s : State) : Prop := s.TablesOk ∧ s.QuietInConfig ∧ s.ReferencesOk

theorem isTimetablePoint_eq (s : State) (a : Nat) : s.isTimetablePoint a = (s.element a).any pointFlag := by
  unfold State.isTimetablePoint State.signalPart
  cases s.element a with
  | none => rfl
  | some r => cases hp : r.part <;> simp [pointFlag, hp]

/-- The count of the entries that name an element, from the view. -/
theorem length_naming (s : State) (a : Nat) :
    (s.naming a).length = ((s.checker.store.map entryFields).filter fun e => decide (e.2 = a)).length := by
  rw [List.filter_map, List.length_map]
  rfl

/-- What the tables are in order by, in their view. -/
theorem tablesOk_iff (s : State) :
    s.TablesOk ↔
      ascending ((s.elements.map tableFields).map fun r => r.1)
        ∧ (∀ r ∈ s.elements.map tableFields, 1 ≤ r.1 ∧ r.1 ≤ 0xEFFF)
        ∧ (s.elements.map tableFields).length ≤ Config.maxElements
        ∧ ascending ((s.checker.store.map entryFields).map fun e => e.1)
        ∧ (s.checker.store.map entryFields).length ≤ Config.maxEntries := by
  simp only [State.TablesOk, List.map_map, List.length_map, List.forall_mem_map]
  rfl

/-- What reference counts are true by, in the view of the tables. -/
theorem referencesOk_iff (s : State) :
    s.ReferencesOk ↔
      (∀ r ∈ s.elements.map tableFields,
          r.2.1 = ((s.checker.store.map entryFields).filter fun e => decide (e.2 = r.1)).length)
        ∧ ∀ e ∈ s.checker.store.map entryFields,
            ((s.elements.map tableFields).find? fun r => r.1 == e.2).any (fun r => r.2.2) = true := by
  have flag : ∀ a, ((s.elements.map tableFields).find? fun r => r.1 == a).any (fun r => r.2.2) = s.isTimetablePoint a := by
    intro a
    rw [isTimetablePoint_eq, List.find?_map, Option.any_map]
    rfl
  simp only [State.ReferencesOk, flag, List.forall_mem_map, length_naming]
  rfl

theorem tablesOk_congr {s t : State} (h : tableView t = tableView s) (k : s.TablesOk) : t.TablesOk := by
  simp only [tableView, Prod.mk.injEq] at h
  obtain ⟨he, hc, -⟩ := h
  rw [tablesOk_iff] at k ⊢
  rwa [he, hc]

theorem referencesOk_congr {s t : State} (h : tableView t = tableView s) (k : s.ReferencesOk) : t.ReferencesOk := by
  simp only [tableView, Prod.mk.injEq] at h
  obtain ⟨he, hc, -⟩ := h
  rw [referencesOk_iff] at k ⊢
  rwa [he, hc]

/-- A record without a context (R72). -/
def quiet (r : ElementRecord) : Prop := contexts r = (none, none, none, none)

theorem quietInConfig_iff (s : State) : s.QuietInConfig ↔ (s.service.state = .config → ∀ r ∈ s.elements, quiet r) := by
  have key : ∀ r : ElementRecord, quiet r ↔
      (r.movement = none ∧ r.confirmation = none ∧ r.silenceDeadline = none
        ∧ ∀ g, r.part = .signal g → g.clearedFor = none) := by
    intro r
    cases hp : r.part <;> simp [quiet, contexts, clearedForOf, hp]
  simp only [State.QuietInConfig, key]

theorem quietInConfig_of_run {s : State} (h : s.service.state = .run) : s.QuietInConfig := by
  simp [State.QuietInConfig, h]

theorem quietInConfig_congr {s t : State} (h : fullView t = fullView s) (k : s.QuietInConfig) : t.QuietInConfig := by
  simp only [fullView, tableView, Prod.mk.injEq] at h
  obtain ⟨⟨-, -, hs⟩, hq⟩ := h
  have contextless : ∀ u : State, (∀ r ∈ u.elements, quiet r) ↔ ∀ c ∈ u.elements.map contexts, c = (none, none, none, none) := by
    intro u
    simp [quiet]
  rw [quietInConfig_iff, contextless] at k ⊢
  rwa [hs, hq]

theorem inOrder_of_tableView {s t : State} (h : tableView t = tableView s) (hq : t.QuietInConfig) (k : inOrder s) :
    inOrder t := ⟨tablesOk_congr h k.1, hq, referencesOk_congr h k.2.2⟩

theorem inOrder_of_fullView {s t : State} (h : fullView t = fullView s) (k : inOrder s) : inOrder t :=
  inOrder_of_tableView (tableView_of_fullView h) (quietInConfig_congr h k.2.1) k

/-- In RUN contexts may stand. -/
theorem inOrder_of_run {s t : State} (h : tableView t = tableView s) (hs : s.service.state = .run) (k : inOrder s) :
    inOrder t := by
  have ht : t.service.state = s.service.state := congrArg (fun v => v.2.2) h
  exact inOrder_of_tableView h (quietInConfig_of_run (ht.trans hs)) k

/-- In CONFIG a record has no context. -/
theorem quiet_of_inOrder {s : State} (h : inOrder s) (hs : s.service.state = .config) {a : Nat} {r : ElementRecord}
    (hr : s.element a = some r) : quiet r :=
  (quietInConfig_iff s).mp h.2.1 hs r (element_mem hr)

/-- An operation that leaves the tables, and in CONFIG does nothing, keeps them in order. -/
theorem inOrder_of_idle_in_config {s t : State} (h : tableView t = tableView s)
    (hc : s.service.state = .config → inOrder s → t = s) (k : inOrder s) : inOrder t := by
  cases hs : s.service.state with
  | config => rwa [hc hs k]
  | run => exact inOrder_of_run h hs k

/-! ## Deadlines of an element (R88, R99, R101, R103, R119) -/

theorem quiet_point {r : ElementRecord} (h : quiet r) {p : PointPart} (hp : r.part = .point p) : p.movement = none := by
  simp only [quiet, contexts, Prod.mk.injEq] at h
  simpa [ElementRecord.movement, hp] using h.1

theorem quiet_signal {r : ElementRecord} (h : quiet r) {g : SignalPart} (hg : r.part = .signal g) :
    g.confirmation = none ∧ g.clearedFor = none := by
  simp only [quiet, contexts, Prod.mk.injEq] at h
  obtain ⟨-, hc, -, hf⟩ := h
  exact ⟨by simpa [ElementRecord.confirmation, hg] using hc, by simpa [clearedForOf, hg] using hf⟩

theorem startDeadline_inOrder {s : State} (h : inOrder s) (a : Nat) : inOrder (s.startDeadline a) := by
  refine inOrder_of_idle_in_config (startDeadline_tableView s a) (fun hs _ => ?_) h
  unfold State.startDeadline
  split
  · next r hr =>
    split
    · next p hp => simp [quiet_point (quiet_of_inOrder h hs hr) hp]
    · rfl
  · rfl

theorem runDeadline_inOrder {s : State} (h : inOrder s) (a : Nat) : inOrder (s.runDeadline a) := by
  refine inOrder_of_idle_in_config (runDeadline_tableView s a) (fun hs _ => ?_) h
  unfold State.runDeadline
  split
  · next r hr =>
    split
    · next p hp => simp [quiet_point (quiet_of_inOrder h hs hr) hp]
    · rfl
  · rfl

theorem settleDeadline_inOrder {s : State} (h : inOrder s) (a : Nat) : inOrder (s.settleDeadline a) := by
  refine inOrder_of_idle_in_config (settleDeadline_tableView s a) (fun hs _ => ?_) h
  unfold State.settleDeadline
  split
  · next r hr =>
    split
    · next p hp => simp [quiet_point (quiet_of_inOrder h hs hr) hp]
    · rfl
  · rfl

theorem confirmDeadline_inOrder {s : State} (h : inOrder s) (a : Nat) : inOrder (s.confirmDeadline a) := by
  refine inOrder_of_idle_in_config (confirmDeadline_tableView s a) (fun hs _ => ?_) h
  unfold State.confirmDeadline
  split
  · next r hr =>
    split
    · next g hg => simp [(quiet_signal (quiet_of_inOrder h hs hr) hg).1]
    · rfl
  · rfl

theorem silenceDeadline_inOrder {s : State} (h : inOrder s) (a : Nat) : inOrder (s.silenceDeadline a) := by
  have hview : tableView (s.silenceDeadline a) = tableView s := by
    unfold State.silenceDeadline
    split
    · split
      · exact (elementFault_tableView _ _ _ _ _).trans (tableView_modifyElement s a fun _ => rfl)
      · rfl
    · rfl
  refine inOrder_of_idle_in_config hview (fun hs _ => ?_) h
  unfold State.silenceDeadline
  split
  · next r hr =>
    have hquiet := quiet_of_inOrder h hs hr
    simp only [quiet, contexts, Prod.mk.injEq] at hquiet
    simp [hquiet.2.2.1, State.reached]
  · rfl

/-! ## The commit of an element telegram (R79 to R87) -/

theorem accept_fields (r : ElementRecord) (k : TelegramKind) (n : Nat) (v : Value) :
    tableFields (r.accept k n v) = tableFields r ∧ contexts (r.accept k n v) = contexts r := by
  cases k <;> exact ⟨rfl, rfl⟩

theorem acceptTelegram_inOrder {s : State} (h : inOrder s) (r : ElementRecord) (t : ElementTelegram) (v : Value) :
    inOrder (s.acceptTelegram r t v) := by
  have accepted : fullView (s.modifyElement t.address fun r => r.accept t.kind t.sequence v) = fullView s :=
    fullView_modifyElement s _ (fun r => (accept_fields r _ _ _).1) (fun r => (accept_fields r _ _ _).2)
  have covered : ∀ u : State, tableView (u.coverageStep t) = tableView u := by
    intro u
    unfold State.coverageStep
    split
    · rfl
    · split
      · refine tableView_modifyElement u _ fun r => ?_
        unfold ElementRecord.covered
        dsimp only
        split <;> rfl
      · rfl
  have uncovered : ∀ u : State, u.service.state = .config → u.coverageStep t = u := by
    intro u hu
    unfold State.coverageStep
    split <;> simp [hu]
  unfold State.acceptTelegram State.elementEntry
  dsimp only
  generalize hu : (if decide (fresh (r.last t.kind) ≠ some v) = true then _ else _) = u
  have hview : fullView u = fullView s := by
    rw [← hu]
    split
    · exact (attempt_fullView _ _).trans accepted
    · exact accepted
  have hstate : u.service.state = s.service.state := congrArg (fun w => w.1.2.2) hview
  cases hs : s.service.state with
  | config =>
    rw [if_neg (by simp), uncovered u (hstate.trans hs)]
    exact inOrder_of_fullView hview h
  | run =>
    rw [if_pos rfl]
    exact inOrder_of_run (((handOff_tableView _ _ _ _ _ _).trans (covered u)).trans (tableView_of_fullView hview)) hs h

theorem applyElement_inOrder {s : State} (h : inOrder s) (t : ElementTelegram) (b : List Byte) :
    inOrder (s.applyElement t b) := by
  unfold State.applyElement
  split
  · exact h
  · split
    · exact h
    · split
      · exact h
      · exact acceptTelegram_inOrder h _ t _

end Sys2Proof.Laws
end

section
/-! SUPPORT. The requests on the tables, the operating states and RESTART keep the tables in order. -/

namespace Sys2Proof.Laws

open Sys2Proof Sys2Proof.Machine

/-! ## Records by address and entries by id (R61, R125) -/

/-- The tables are kept in ascending order of address and of id. -/
theorem keyed_of_tablesOk {s : State} (h : s.TablesOk) :
    keyed ElementRecord.address s.elements ∧ keyed TimetableEntry.id s.checker.store :=
  ⟨(ascending_map_iff _ _).mp h.1, (ascending_map_iff _ _).mp h.2.2.2.1⟩

theorem element_eq_some_iff {s : State} (h : s.TablesOk) {a : Nat} {r : ElementRecord} :
    s.element a = some r ↔ r ∈ s.elements ∧ r.address = a := find?_key_eq_some_iff (keyed_of_tablesOk h).1

theorem entry_eq_some_iff {s : State} (h : s.TablesOk) {i : Nat} {e : TimetableEntry} :
    s.entry i = some e ↔ e ∈ s.checker.store ∧ e.id = i := find?_key_eq_some_iff (keyed_of_tablesOk h).2

theorem isTimetablePoint_iff {s : State} (h : s.TablesOk) {a : Nat} :
    s.isTimetablePoint a = true ↔ ∃ r ∈ s.elements, r.address = a ∧ pointFlag r = true := by
  rw [isTimetablePoint_eq, Option.any_eq_true]
  simp only [element_eq_some_iff h, and_assoc]

theorem mem_naming {s : State} {a : Nat} {e : TimetableEntry} :
    e ∈ s.naming a ↔ e ∈ s.checker.store ∧ e.element = a := by
  simp [State.naming]

/-- An address without a record is named by no entry (R64). -/
theorem naming_eq_nil {s : State} (h : s.ReferencesOk) {a : Nat} (ha : s.element a = none) : s.naming a = [] := by
  refine List.filter_eq_nil_iff.mpr fun e he hea => ?_
  have hpoint := h.2 e he
  rw [isTimetablePoint_eq, of_decide_eq_true hea, ha] at hpoint
  cases hpoint

theorem naming_of_unreferenced {s : State} (h : s.ReferencesOk) {r : ElementRecord} (hr : r ∈ s.elements)
    (h0 : r.references = 0) : s.naming r.address = [] := List.eq_nil_of_length_eq_zero ((h.1 r hr).symm.trans h0)

/-! ## LOAD ELEMENT and UNLOAD ELEMENT (R61, R64 to R67) -/

/-- The arguments of a load that is acceptable, each in its set (R65). -/
theorem loadArguments_eq_some {p : LoadElementParams} {k : ElementKind} {m : ElementMode} {f : Bool} :
    loadArguments p = some (k, m, f) ↔
      elementKindOf p.kind = some k ∧ elementModeOf p.mode = some m ∧ flagOf p.timetablePoint = some f
        ∧ isElementAddress p.address = true ∧ ¬(f = true ∧ k = .point) := by
  unfold loadArguments
  split
  · next hk hm hf =>
    rw [hk, hm, hf]
    simp only [Option.ite_none_right_eq_some, Option.some.injEq, Prod.mk.injEq]
    constructor
    · rintro ⟨⟨ha, hp⟩, rfl, rfl, rfl⟩
      exact ⟨rfl, rfl, rfl, ha, hp⟩
    · rintro ⟨rfl, rfl, rfl, ha, hp⟩
      exact ⟨⟨ha, hp⟩, rfl, rfl, rfl⟩
  · next hnone =>
    simp only [reduceCtorEq, false_iff]
    rintro ⟨hk, hm, hf, -⟩
    exact hnone _ _ _ hk hm hf

theorem flagOf_eq_some {n : Nat} {b : Bool} : flagOf n = some b ↔ (n = 0 ∧ b = false) ∨ (n = 1 ∧ b = true) := by
  unfold flagOf
  split <;> simp_all [eq_comm]

theorem loadElement_of_arguments {s : State} {p : LoadElementParams} {k : ElementKind} {m : ElementMode} {f : Bool}
    (h : loadArguments p = some (k, m, f)) :
    s.loadElement p =
      State.evalAlarm
        { s with
          elements :=
            insertElement (loadedRecord k m p (((s.element p.address).map (·.references)).getD 0)) s.elements } := by
  simp only [State.loadElement, h]

/-- A load that its rule grants: in CONFIG, of acceptable arguments, where there is room and the record, if one is held,
stays the timetable-point signal that entries name (R65). -/
theorem judgeLoad_granted {s : State} {p : LoadElementParams} (h : (s.judgeLoad p).granted = true) :
    s.service.state = .config ∧ ∃ k m f, loadArguments p = some (k, m, f)
      ∧ (s.element p.address = none → s.elements.length < Config.maxElements)
      ∧ ∀ r, s.element p.address = some r → keepsReferenced r k f = true := by
  unfold State.judgeLoad at h
  split at h
  · cases h
  · next hrun =>
    refine ⟨by cases hs : s.service.state <;> simp_all, ?_⟩
    split at h
    · cases h
    · next k m f hargs =>
      refine ⟨k, m, f, hargs, ?_⟩
      split at h
      · next hnone =>
        split at h
        · cases h
        · next hroom => exact ⟨fun _ => Nat.lt_of_not_le hroom, fun r hr => by simp [hnone] at hr⟩
      · next r hr =>
        split at h
        · next hkeeps =>
          exact ⟨fun hnone => by simp [hr] at hnone, fun q hq => by simp_all⟩
        · cases h

/-- A loaded record has no context (R63). -/
theorem quiet_loadedRecord (k : ElementKind) (m : ElementMode) (p : LoadElementParams) (n : Nat) :
    quiet (loadedRecord k m p n) := by
  cases k <;> rfl

theorem pointFlag_loadedRecord {k : ElementKind} {m : ElementMode} {p : LoadElementParams} {f : Bool}
    (h : loadArguments p = some (k, m, f)) (n : Nat) : pointFlag (loadedRecord k m p n) = f := by
  obtain ⟨-, -, hf, -, hp⟩ := loadArguments_eq_some.mp h
  cases k with
  | signal => obtain ⟨h0, rfl⟩ | ⟨h1, rfl⟩ := flagOf_eq_some.mp hf <;> simp [pointFlag, loadedRecord, loadedPart, *]
  | point =>
    have : f = false := by simpa using hp
    rw [this]
    rfl

theorem mem_insertElement_iff {s : State} (h : s.TablesOk) {q r : ElementRecord} :
    r ∈ insertElement q s.elements ↔ r = q ∨ (r ∈ s.elements ∧ r.address ≠ q.address) := by
  rw [insertElement_eq, mem_insertKeyed_iff (keyed_of_tablesOk h).1]

/-- A record within the address range joins the table in order, where it replaces one or there is room (R61). -/
theorem insertElement_tablesOk {s : State} (h : s.TablesOk) {q : ElementRecord} (hq : 1 ≤ q.address ∧ q.address ≤ 0xEFFF)
    (hroom : s.element q.address = none → s.elements.length < Config.maxElements) :
    State.TablesOk { s with elements := insertElement q s.elements } := by
  obtain ⟨hkeyed, -⟩ := keyed_of_tablesOk h
  obtain ⟨-, hrange, hcount, hstore, hentries⟩ := id h
  refine ⟨(ascending_map_iff _ _).mpr (insertElement_eq q _ ▸ keyed_insertKeyed hkeyed q), fun r hr => ?_, ?_, hstore,
    hentries⟩
  · obtain rfl | ⟨hr, -⟩ := (mem_insertElement_iff h).mp hr
    · exact hq
    · exact hrange r hr
  · have hlength := length_insertKeyed hkeyed q
    rw [← insertElement_eq] at hlength
    dsimp only
    rw [hlength]
    split
    · exact hcount
    · next hnone => exact hroom (Option.not_isSome_iff_eq_none.mp hnone)

/-- The reference count that a load gives its record is true (R64, R66). -/
theorem loadedReferences_eq {s : State} (h : s.ReferencesOk) (a : Nat) :
    ((s.element a).map (·.references)).getD 0 = (s.naming a).length := by
  cases hr : s.element a with
  | none => rw [naming_eq_nil h hr]; rfl
  | some r =>
    rw [← element_address hr]
    exact h.1 r (element_mem hr)

theorem loadElement_inOrder {s : State} (h : inOrder s) {p : LoadElementParams}
    (hg : (s.judgeLoad p).granted = true) : inOrder (s.loadElement p) := by
  obtain ⟨htables, hquiet, hrefs⟩ := h
  obtain ⟨-, k, m, f, hargs, hroom, hkeeps⟩ := judgeLoad_granted hg
  obtain ⟨-, -, -, haddress, -⟩ := loadArguments_eq_some.mp hargs
  rw [loadElement_of_arguments hargs, loadedReferences_eq hrefs]
  let q := loadedRecord k m p (s.naming p.address).length
  have hmem : ∀ r, r ∈ insertElement q s.elements ↔ r = q ∨ (r ∈ s.elements ∧ r.address ≠ p.address) :=
    fun r => mem_insertElement_iff htables
  have htables' := insertElement_tablesOk (q := q) htables (isElementAddress_iff.mp haddress) hroom
  refine ⟨htables', (quietInConfig_iff _).mpr fun hs r hr => ?_, fun r hr => ?_,
    fun e he => (isTimetablePoint_iff htables').mpr ?_⟩
  · obtain rfl | ⟨hr, -⟩ := (hmem r).mp hr
    · exact quiet_loadedRecord k m p _
    · exact (quietInConfig_iff s).mp hquiet hs r hr
  · obtain rfl | ⟨hr, -⟩ := (hmem r).mp hr
    · rfl
    · exact hrefs.1 r hr
  · obtain ⟨r, hr, hre, hflag⟩ := (isTimetablePoint_iff htables).mp (hrefs.2 e he)
    by_cases hp : r.address = p.address
    · refine ⟨q, (hmem q).mpr (.inl rfl), hp.symm.trans hre, ?_⟩
      have hkept := hkeeps r ((element_eq_some_iff htables).mpr ⟨hr, hp⟩)
      have hnamed : r.references ≠ 0 := by
        intro h0
        have hnil := naming_of_unreferenced hrefs hr h0
        exact List.not_mem_nil (hnil ▸ mem_naming.mpr ⟨he, hre.symm⟩)
      rw [pointFlag_loadedRecord hargs]
      simp only [keepsReferenced, hnamed, decide_false, Bool.false_or, Bool.and_eq_true] at hkept
      exact hkept.2
    · exact ⟨r, (hmem r).mpr (.inr ⟨hr, hp⟩), hre, hflag⟩

theorem judgeUnload_granted {s : State} {a : Nat} (h : (s.judgeUnload a).granted = true) :
    ∃ r, s.element a = some r ∧ r.references = 0 := by
  unfold State.judgeUnload at h
  split at h
  · cases h
  · split at h
    · cases h
    · split at h
      · cases h
      · next r hr =>
        split at h
        · next h0 => exact ⟨r, hr, h0⟩
        · cases h

theorem unloadElement_inOrder {s : State} (h : inOrder s) {a : Nat} (hg : (s.judgeUnload a).granted = true) :
    inOrder (s.unloadElement a) := by
  obtain ⟨htables, hquiet, hrefs⟩ := h
  obtain ⟨q, hq, h0⟩ := judgeUnload_granted hg
  obtain ⟨hkeyed, -⟩ := keyed_of_tablesOk htables
  obtain ⟨-, hrange, hcount, hstore, hentries⟩ := id htables
  have hmem : ∀ r, r ∈ (s.unloadElement a).elements ↔ r ∈ s.elements ∧ r.address ≠ a := by
    intro r
    simp [State.unloadElement]
  have htables' : (s.unloadElement a).TablesOk :=
    ⟨(ascending_map_iff _ _).mpr (hkeyed.filter _), fun r hr => hrange r ((hmem r).mp hr).1,
      (List.length_filter_le _ _).trans hcount, hstore, hentries⟩
  refine ⟨htables', (quietInConfig_iff _).mpr fun hs r hr => ?_, fun r hr => ?_, fun e he => ?_⟩
  · exact (quietInConfig_iff s).mp hquiet hs r ((hmem r).mp hr).1
  · exact hrefs.1 r ((hmem r).mp hr).1
  · obtain ⟨r, hr, hre, hflag⟩ := (isTimetablePoint_iff htables).mp (hrefs.2 e he)
    refine (isTimetablePoint_iff htables').mpr ⟨r, (hmem r).mpr ⟨hr, fun ha => ?_⟩, hre, hflag⟩
    have hnil := naming_of_unreferenced hrefs (element_mem hq) h0
    rw [element_address hq] at hnil
    exact List.not_mem_nil (hnil ▸ mem_naming.mpr ⟨he, hre.symm.trans ha⟩)

/-! ## LOAD ENTRY and ERASE PERIOD (R64, R132, R133, R135) -/

/-- The reference count of an element changes by what a list of entries takes from it. -/
theorem foldl_dropReference (l : List TimetableEntry) (s : State) :
    l.foldl (fun u e => u.dropReference e.element) s =
      { s with elements := s.elements.map fun r =>
          { r with references := r.references - (l.filter fun e => decide (e.element = r.address)).length } } := by
  induction l generalizing s with
  | nil => simp
  | cons e l ih =>
    rw [List.foldl_cons, ih]
    simp only [State.dropReference, State.modifyElement, List.map_map]
    congr 1
    refine List.map_congr_left fun r _ => ?_
    by_cases hr : r.address = e.element
    · simp [hr, Nat.sub_sub, Nat.add_comm]
    · simp [hr, Ne.symm hr]

/-- Reference counts written anew for a new store keep the tables in order, where they are its counts (R64). -/
theorem recount_inOrder {s t : State} (h : inOrder s) {g : ElementRecord → Nat}
    (he : t.elements = s.elements.map fun r => { r with references := g r }) (hs : t.service = s.service)
    (hids : ascending (t.checker.store.map (·.id))) (hlength : t.checker.store.length ≤ Config.maxEntries)
    (hcount : ∀ r ∈ s.elements, g r = (t.naming r.address).length)
    (hpoint : ∀ e ∈ t.checker.store, s.isTimetablePoint e.element = true) : inOrder t := by
  obtain ⟨⟨haddresses, hrange, helements, -, -⟩, hquiet, -⟩ := h
  have haddress : t.elements.map (·.address) = s.elements.map (·.address) := by
    rw [he, List.map_map]
    rfl
  have hflag : ∀ a, t.isTimetablePoint a = s.isTimetablePoint a := by
    intro a
    rw [isTimetablePoint_eq, isTimetablePoint_eq, State.element, he, List.find?_map, Option.any_map]
    rfl
  refine ⟨⟨haddress ▸ haddresses, ?_, ?_, hids, hlength⟩, (quietInConfig_iff t).mpr fun hc r hr => ?_, fun r hr => ?_,
    fun e hm => (hflag _).trans (hpoint e hm)⟩
  · rw [he]
    simpa using hrange
  · rw [he, List.length_map]
    exact helements
  · obtain ⟨q, hq, rfl⟩ := List.mem_map.mp (he ▸ hr)
    exact (quietInConfig_iff s).mp hquiet (hs ▸ hc) q hq
  · obtain ⟨q, hq, rfl⟩ := List.mem_map.mp (he ▸ hr)
    exact hcount q hq

theorem judgeEntry_granted {s : State} {p : LoadEntryParams} {e : TimetableEntry} (h : (s.judgeEntry p e).granted = true) :
    s.isTimetablePoint e.element = true ∧ (s.entry e.id = none → s.checker.store.length < Config.maxEntries) := by
  unfold State.judgeEntry at h
  split at h
  · cases h
  · split at h
    · cases h
    · next hpoint =>
      refine ⟨by simpa using hpoint, fun hnone => Nat.lt_of_not_le fun hfull => ?_⟩
      simp only [hnone, hfull, and_self, Option.isNone_none, if_true] at h
      split at h
      · cases h
      · split at h
        · cases h
        · split at h <;> cases h

/-- A load of an entry that its rule grants: of acceptable arguments, naming a timetable-point signal, where there is room
or an entry of its id is held (R132). -/
theorem judgeLoadEntry_granted {s : State} {p : LoadEntryParams} (h : (s.judgeLoadEntry p).granted = true) :
    ∃ t c, entryArguments p = some (t, c) ∧ s.isTimetablePoint p.element = true
      ∧ (s.entry p.id = none → s.checker.store.length < Config.maxEntries) := by
  unfold State.judgeLoadEntry at h
  split at h
  · cases h
  · next t c hargs => exact ⟨t, c, hargs, judgeEntry_granted h⟩

/-- The record's reference count once an entry is loaded in place of that of its id, if one is held (R64, R133). -/
def referencesAfter (s : State) (e : TimetableEntry) (r : ElementRecord) : Nat :=
  (r.references - if (s.entry e.id).any (fun x => decide (x.element = r.address)) then 1 else 0)
    + if e.element = r.address then 1 else 0

theorem dropReference_elements (s : State) (a : Nat) :
    (s.dropReference a).elements =
      s.elements.map fun r => { r with references := r.references - if a = r.address then 1 else 0 } := by
  refine List.map_congr_left fun r _ => ?_
  by_cases hr : r.address = a
  · simp [hr]
  · simp [hr, Ne.symm hr]

theorem addReference_elements (s : State) (a : Nat) :
    (s.addReference a).elements =
      s.elements.map fun r => { r with references := r.references + if a = r.address then 1 else 0 } := by
  refine List.map_congr_left fun r _ => ?_
  by_cases hr : r.address = a
  · simp [hr]
  · simp [hr, Ne.symm hr]

/-- The reference of the entry that a load replaces, if one is held, is taken back (R64, R133). -/
def dropReplaced (s : State) (i : Nat) : State :=
  match s.entry i with
  | some x => s.dropReference x.element
  | none => s

theorem dropReplaced_eq (s : State) (i : Nat) :
    dropReplaced s i =
      { s with
        elements := s.elements.map fun r =>
          { r with references :=
              r.references - if (s.entry i).any (fun x => decide (x.element = r.address)) then 1 else 0 } } := by
  unfold dropReplaced
  cases s.entry i with
  | none => simp
  | some x =>
    have helements := dropReference_elements s x.element
    simp only [State.dropReference, State.modifyElement] at helements ⊢
    simp only [helements, Option.any_some, decide_eq_true_eq]

theorem loadEntry_of_arguments {s : State} {p : LoadEntryParams} {t : Period} {c : CheckKind}
    (h : entryArguments p = some (t, c)) :
    s.loadEntry p =
      { s with
        elements := s.elements.map fun r => { r with references := referencesAfter s (s.checker.entryOf p t c) r }
        checker := { s.checker with
          store := insertEntry (s.checker.entryOf p t c) s.checker.store, loads := s.checker.loads + 1 } } := by
  have hload : s.loadEntry p =
      let e := s.checker.entryOf p t c
      let u := dropReplaced s e.id
      State.addReference { u with checker :=
        { u.checker with store := insertEntry e u.checker.store, loads := u.checker.loads + 1 } } e.element := by
    simp only [State.loadEntry, h, dropReplaced] <;> rfl
  rw [hload]
  dsimp only
  rw [dropReplaced_eq]
  have helements := addReference_elements
    { s with
      elements := s.elements.map fun r =>
        { r with references := r.references
            - if (s.entry (s.checker.entryOf p t c).id).any (fun x => decide (x.element = r.address)) then 1 else 0 } }
    (s.checker.entryOf p t c).element
  simp only [State.addReference, State.modifyElement, List.map_map] at helements ⊢
  rw [helements]
  rfl

/-- The entries that name an element once one is loaded (R64, R133). -/
theorem length_naming_insertEntry {s : State} (h : s.TablesOk) (e : TimetableEntry) (a : Nat) :
    ((insertEntry e s.checker.store).filter fun x => decide (x.element = a)).length =
      ((s.naming a).length - if (s.entry e.id).any (fun x => decide (x.element = a)) then 1 else 0)
        + if e.element = a then 1 else 0 := by
  obtain ⟨-, hkeyed⟩ := keyed_of_tablesOk h
  rw [insertEntry_eq, ((insertKeyed_perm hkeyed e).filter _).length_eq, List.filter_cons]
  have hrest : ((s.checker.store.filter fun y => decide (y.id ≠ e.id)).filter fun x => decide (x.element = a)).length =
      (s.naming a).length - if (s.entry e.id).any (fun x => decide (x.element = a)) then 1 else 0 := by
    cases hx : s.entry e.id with
    | none =>
      have hkept : s.checker.store.filter (fun y => decide (y.id ≠ e.id)) = s.checker.store :=
        List.filter_eq_self.mpr fun y hy => by simpa using List.find?_eq_none.mp hx y hy
      rw [hkept]
      rfl
    | some x =>
      obtain ⟨hmem, hid⟩ := (entry_eq_some_iff h).mp hx
      have hsplit := length_filter_key_ne hkeyed hmem fun y => decide (y.element = a)
      rw [hid] at hsplit
      rw [State.naming, hsplit]
      simp
  by_cases hp : e.element = a
  · rw [if_pos (decide_eq_true hp), if_pos hp, List.length_cons, hrest]
  · rw [if_neg (by simpa using hp), if_neg hp, hrest, Nat.add_zero]

theorem loadEntry_inOrder {s : State} (h : inOrder s) {p : LoadEntryParams} (hg : (s.judgeLoadEntry p).granted = true) :
    inOrder (s.loadEntry p) := by
  obtain ⟨t, c, hargs, hpoint, hroom⟩ := judgeLoadEntry_granted hg
  obtain ⟨htables, -, hrefs⟩ := id h
  obtain ⟨-, hkeyed⟩ := keyed_of_tablesOk htables
  rw [loadEntry_of_arguments hargs]
  generalize he : s.checker.entryOf p t c = e
  have hid : e.id = p.id := by rw [← he]; rfl
  have helement : e.element = p.element := by rw [← he]; rfl
  refine recount_inOrder h rfl rfl ?_ ?_ (fun r hr => ?_) fun x hx => ?_
  · exact (ascending_map_iff _ _).mpr (insertEntry_eq e _ ▸ keyed_insertKeyed hkeyed e)
  · have hlength := length_insertKeyed hkeyed e
    rw [← insertEntry_eq] at hlength
    dsimp only
    rw [hlength]
    split
    · exact htables.2.2.2.2
    · next hnone => exact hroom (hid ▸ Option.not_isSome_iff_eq_none.mp hnone)
  · exact (congrArg (fun n => (n - _) + _) (hrefs.1 r hr)).trans (length_naming_insertEntry htables e r.address).symm
  · obtain rfl | ⟨hx, -⟩ := (mem_insertKeyed_iff hkeyed).mp (insertEntry_eq e _ ▸ hx)
    · exact helement ▸ hpoint
    · exact hrefs.2 x hx

theorem erasePeriod_of_code {s : State} {n : Nat} {t : Period} (h : periodOf n = some t) :
    s.erasePeriod n =
      { s with
        elements := s.elements.map fun r =>
          { r with references := r.references
              - ((s.checker.store.filter fun e => decide (e.period = t)).filter
                  fun e => decide (e.element = r.address)).length }
        checker := { s.checker with store := s.checker.store.filter fun e => decide (e.period ≠ t) } } := by
  simp only [State.erasePeriod, h, foldl_dropReference]

/-- The entries of an element are those of a period and those of the others (R135). -/
theorem length_filter_period (l : List TimetableEntry) (t : Period) (a : Nat) :
    (l.filter fun e => decide (e.element = a)).length =
      ((l.filter fun e => decide (e.period = t)).filter fun e => decide (e.element = a)).length
        + ((l.filter fun e => decide (e.period ≠ t)).filter fun e => decide (e.element = a)).length := by
  have hnot : (fun e : TimetableEntry => decide (e.period ≠ t)) = fun e => !decide (e.period = t) := by
    funext e
    exact decide_not
  rw [hnot, ← List.length_append, ← List.filter_append]
  exact ((List.filter_append_perm (fun e => decide (e.period = t)) l).filter _).length_eq.symm

theorem erasePeriod_inOrder {s : State} (h : inOrder s) (n : Nat) : inOrder (s.erasePeriod n) := by
  cases ht : periodOf n with
  | none => simpa only [State.erasePeriod, ht] using h
  | some t =>
    obtain ⟨htables, -, hrefs⟩ := id h
    obtain ⟨-, hkeyed⟩ := keyed_of_tablesOk htables
    rw [erasePeriod_of_code ht]
    refine recount_inOrder h rfl rfl ?_ ?_ (fun r hr => ?_) fun e he => hrefs.2 e (List.mem_filter.mp he).1
    · exact (ascending_map_iff _ _).mpr (hkeyed.filter _)
    · exact (List.length_filter_le _ _).trans htables.2.2.2.2
    · have hsplit := length_filter_period s.checker.store t r.address
      have hcount := hrefs.1 r hr
      simp only [State.naming] at hcount ⊢
      omega

/-! ## SET ELEMENT MODE, RUN and RESTART (R69 to R72, R181 to R185) -/

/-- Changing records that stay quiet leaves CONFIG without contexts. -/
theorem modifyElement_quiet {s : State} (h : s.QuietInConfig) (a : Nat) {f : ElementRecord → ElementRecord}
    (hf : ∀ r, quiet r → quiet (f r)) : (s.modifyElement a f).QuietInConfig := by
  refine (quietInConfig_iff _).mpr fun hs r hr => ?_
  obtain ⟨q, hq, rfl⟩ := List.mem_map.mp hr
  have hquiet := (quietInConfig_iff s).mp h hs q hq
  split
  · exact hf q hquiet
  · exact hquiet

@[simp] theorem abandon_tableView (s : State) (a : Nat) : tableView (s.abandon a) = tableView s := by
  unfold State.abandon
  split <;> simp

/-- In CONFIG there is nothing to abandon (R72). -/
theorem abandon_inOrder {s : State} (h : inOrder s) (a : Nat) : inOrder (s.abandon a) := by
  refine inOrder_of_idle_in_config (abandon_tableView s a) (fun hs _ => ?_) h
  unfold State.abandon
  cases hr : s.element a with
  | none => rfl
  | some r =>
    have hquiet := quiet_of_inOrder h hs hr
    simp only [quiet, contexts, Prod.mk.injEq] at hquiet
    simp [hquiet.1]

theorem changeMode_tableFields (r : ElementRecord) (m : ElementMode) : tableFields (r.changeMode m) = tableFields r := by
  have hsignal := tableFields_mapSignal r (f := fun g => g.changeMode r.mode m) fun _ => rfl
  unfold ElementRecord.changeMode
  dsimp only
  split <;> exact hsignal

theorem changeMode_quiet {r : ElementRecord} (h : quiet r) (m : ElementMode) : quiet (r.changeMode m) := by
  have hsignal : quiet (r.mapSignal fun g => g.changeMode r.mode m) := by
    unfold ElementRecord.mapSignal
    split
    · exact h
    · next g hg =>
      obtain ⟨hconfirmation, hcleared⟩ := quiet_signal h hg
      simp only [quiet, contexts, Prod.mk.injEq] at h ⊢
      simp [ElementRecord.movement, ElementRecord.confirmation, clearedForOf, SignalPart.changeMode, hconfirmation,
        hcleared, h.2.2.1]
  simp only [quiet, contexts, Prod.mk.injEq] at hsignal ⊢
  obtain ⟨hm, hc, hd, hf⟩ := hsignal
  unfold ElementRecord.changeMode
  dsimp only
  split
  · exact ⟨hm, hc, rfl, hf⟩
  · exact ⟨hm, hc, hd, hf⟩

theorem setElementMode_inOrder {s : State} (h : inOrder s) (a m : Nat) : inOrder (s.setElementMode a m) := by
  unfold State.setElementMode
  split
  · next r k _ _ =>
    split
    · exact h
    · have habandoned := abandon_inOrder h a
      exact inOrder_of_tableView (tableView_modifyElement _ a fun r => changeMode_tableFields r k)
        (modifyElement_quiet habandoned.2.1 a fun r hr => changeMode_quiet hr k) habandoned
  · exact h

theorem enterRun_inOrder {s : State} (h : inOrder s) : inOrder s.enterRun := by
  unfold State.enterRun
  refine inOrder_of_fullView (expireDue_fullView _) ?_
  have hnoted : inOrder (State.note { s with service := { s.service with state := .run } } s.capture
      (.stateChange s.service.state .run .request)) :=
    inOrder_of_fullView (note_fullView _ _ _ _) ⟨h.1, quietInConfig_of_run rfl, h.2.2⟩
  refine inOrder_of_run (s := State.note { s with service := { s.service with state := .run } } s.capture
    (.stateChange s.service.state .run .request)) ?_ (by simp) hnoted
  simp only [tableView, State.elementsEnterRun, List.map_map]
  rfl

end Sys2Proof.Laws
end

section
/-! SUPPORT. Leaving RUN, RESTART, the commit of a frame, and the tables through every row. -/

namespace Sys2Proof.Laws

open Sys2Proof Sys2Proof.Machine

/-! ## Leaving RUN and RESTART (R72, R107, R182, R185) -/

theorem movement_clear (r : ElementRecord) : (r.mapPoint fun p => { p with movement := none }).movement = none := by
  unfold ElementRecord.mapPoint
  cases hp : r.part <;> simp [ElementRecord.movement, hp]

/-- Once a movement is abandoned its record has none, and no other record gains one (R107). -/
theorem abandon_moving {s : State} (h : s.TablesOk) {a : Nat} {r : ElementRecord} (hr : r ∈ (s.abandon a).elements)
    (hm : r.movement ≠ none) : r.address ≠ a ∧ ∃ q ∈ s.elements, q.address = r.address ∧ q.movement ≠ none := by
  cases hb : (s.element a).bind (·.movement) with
  | some m =>
    have hset : r ∈ (s.setMovement a none).elements := by simpa [State.abandon, hb, State.endMovement] using hr
    obtain ⟨q, hq, rfl⟩ := List.mem_map.mp hset
    split at hm
    · exact absurd (movement_clear q) hm
    · next hqa => exact ⟨by rwa [if_neg hqa], q, hq, by rw [if_neg hqa], hm⟩
  | none =>
    simp only [State.abandon, hb] at hr
    refine ⟨?_, r, hr, rfl, hm⟩
    rintro rfl
    rw [(element_eq_some_iff h).mpr ⟨hr, rfl⟩] at hb
    exact hm hb

theorem foldl_abandon_tableView (l : List Nat) (s : State) : tableView (l.foldl State.abandon s) = tableView s :=
  foldl_same tableView State.abandon abandon_tableView l s

theorem foldl_abandon_moving (l : List Nat) {s : State} (h : s.TablesOk) {r : ElementRecord}
    (hr : r ∈ (l.foldl State.abandon s).elements) (hm : r.movement ≠ none) :
    r.address ∉ l ∧ ∃ q ∈ s.elements, q.address = r.address ∧ q.movement ≠ none := by
  induction l generalizing s with
  | nil => exact ⟨List.not_mem_nil, r, hr, rfl, hm⟩
  | cons a l ih =>
    obtain ⟨hl, q, hq, hqr, hqm⟩ := ih (tablesOk_congr (abandon_tableView s a) h) hr
    obtain ⟨ha, p, hp, hpq, hpm⟩ := abandon_moving h hq hqm
    rw [hqr] at ha hpq
    exact ⟨by simp [ha, hl], p, hp, hpq, hpm⟩

theorem tableFields_leaveRun (r : ElementRecord) : tableFields r.leaveRun = tableFields r :=
  tableFields_mapSignal r (f := fun g => { g with confirmation := none, clearedFor := none }) fun _ => rfl

theorem quiet_leaveRun {r : ElementRecord} (h : r.movement = none) : quiet r.leaveRun := by
  simp only [quiet, contexts, Prod.mk.injEq]
  unfold ElementRecord.leaveRun ElementRecord.mapSignal
  cases hp : r.part with
  | point p => simpa [ElementRecord.movement, ElementRecord.confirmation, clearedForOf, hp] using h
  | signal g => simp [ElementRecord.movement, ElementRecord.confirmation, clearedForOf]

theorem elementsLeaveRun_inOrder {s : State} (h : s.TablesOk) (hr : s.ReferencesOk) : inOrder s.elementsLeaveRun := by
  have hview : tableView s.elementsLeaveRun = tableView s := by
    rw [← foldl_abandon_tableView (s.elements.map (·.address)) s]
    simp only [State.elementsLeaveRun, tableView, List.map_map]
    congr 1
    exact List.map_congr_left fun r _ => tableFields_leaveRun r
  refine ⟨tablesOk_congr hview h, (quietInConfig_iff _).mpr fun _ r hmem => ?_, referencesOk_congr hview hr⟩
  obtain ⟨q, hq, rfl⟩ := List.mem_map.mp hmem
  refine quiet_leaveRun (Decidable.byContradiction fun hm => ?_)
  obtain ⟨hnot, p, hp, hpq, -⟩ := foldl_abandon_moving _ h hq hm
  exact hnot (hpq ▸ List.mem_map_of_mem hp)

theorem leaveRun_inOrder {s : State} (h : inOrder s) (c : Cause) : inOrder (s.leaveRun c) := by
  obtain ⟨htables, -, hrefs⟩ := h
  let u : State := { s with service := { s.service with state := .config } }
  have helements : (u.note u.capture (.stateChange s.service.state .config c)).elements = s.elements := by simp [u]
  have hchecker : (u.note u.capture (.stateChange s.service.state .config c)).checker = s.checker := by simp [u]
  exact elementsLeaveRun_inOrder ((tablesOk_iff _).mpr (by simpa [helements, hchecker] using (tablesOk_iff s).mp htables))
    ((referencesOk_iff _).mpr (by simpa [helements, hchecker] using (referencesOk_iff s).mp hrefs))

theorem requestState_inOrder {s : State} (h : inOrder s) (v : Nat) : inOrder (s.requestState v) := by
  unfold State.requestState
  split
  · exact enterRun_inOrder h
  · exact leaveRun_inOrder h .request
  · exact h

/-- Empty tables are in order. -/
theorem inOrder_of_empty {s : State} (he : s.elements = []) (hs : s.checker.store = []) : inOrder s := by
  refine ⟨?_, ?_, ?_⟩
  · simp [State.TablesOk, ascending_iff_pairwise, he, hs]
  · simp [State.QuietInConfig, he]
  · simp [State.ReferencesOk, he, hs]

theorem restart_inOrder (s : State) : inOrder s.restart := inOrder_of_empty rfl rfl

/-! ## The requests that leave the tables (R127, R129, R134, R156 to R160, R180) -/

@[simp] theorem withdrawEntry_fullView (s : State) (i : Nat) : fullView (s.withdrawEntry i) = fullView s := by
  unfold State.withdrawEntry
  cases s.entry i with
  | none => rfl
  | some e =>
    dsimp only
    split
    · exact withdraw_fullView s e _
    · rfl

@[simp] theorem acknowledgeRecord_fullView (s : State) (n : Word32) : fullView (s.acknowledgeRecord n) = fullView s := by
  rw [State.acknowledgeRecord, gapRule_fullView]
  unfold State.removeThrough
  split <;> rfl

theorem setLatch_fullView (s : State) (t : LatchTarget) (x : Option Latched) : fullView (s.setLatch t x) = fullView s := by
  unfold State.setLatch
  split
  · exact fullView_modifyElement s _ (fun _ => rfl) fun _ => rfl
  all_goals rfl

theorem clearLatch_fullView (s : State) (t : LatchTarget) : fullView (s.clearLatch t) = fullView s := by
  unfold State.clearLatch
  split
  · exact (note_fullView _ _ _ _).trans (setLatch_fullView s t none)
  · rfl

@[simp] theorem acknowledgeAlarm_fullView (s : State) (t a : Nat) : fullView (s.acknowledgeAlarm t a) = fullView s := by
  unfold State.acknowledgeAlarm
  split
  · next x _ =>
    cases x with
    | line l => exact (modifyLine_fullView _ l _).trans (clearLatch_fullView s (.line l))
    | element b => exact clearLatch_fullView s (.element b)
    | time => exact clearLatch_fullView s .time
    | port p => exact clearLatch_fullView s (.port p)
  · rfl

theorem indicate_fullView (s : State) (c : Byte) (r : Result) (x : Option Reason) :
    fullView (s.indicate c r x) = fullView s := by
  unfold State.indicate
  split
  · rfl
  · split
    · rfl
    · split <;> rfl

/-! ## The commit of a request (R178, R179) -/

/-- A request that stands at its commit keeps the tables in order. -/
theorem effect_inOrder {s : State} (h : inOrder s) {q : Request} (hq : s.standsAtCommit q = true) : inOrder (s.effect q) := by
  cases q with
  | loadElement p => exact loadElement_inOrder h hq
  | unloadElement a => exact unloadElement_inOrder h hq
  | setElementMode a m => exact setElementMode_inOrder h a m
  | loadEntry p => exact loadEntry_inOrder h hq
  | erasePeriod n => exact erasePeriod_inOrder h n
  | requestState v => exact requestState_inOrder h v
  | restart => exact restart_inOrder s
  | setTimeConfiguration p => exact inOrder_of_fullView (setTimeConfig_fullView s p) h
  | setLocalOffset o i => exact inOrder_of_fullView (setLocalOffset_fullView s o i) h
  | setRingPort p m l => exact inOrder_of_fullView (setRingPort_fullView s p m l) h
  | setClockLine p => exact inOrder_of_fullView (setClockLine_fullView s p) h
  | withdrawEntry i => exact inOrder_of_fullView (withdrawEntry_fullView s i) h
  | acknowledgeRecord n => exact inOrder_of_fullView (acknowledgeRecord_fullView s n) h
  | acknowledgeAlarm t a => exact inOrder_of_fullView (acknowledgeAlarm_fullView s t a) h
  | setTimetableSettings l g => exact inOrder_of_fullView (t := s.setTimetableSettings l g) rfl h
  | setChangeover i d => exact inOrder_of_fullView (t := s.setChangeover i d) rfl h
  | setActions n l => exact inOrder_of_fullView (t := s.setActions n l) rfl h
  | setRunCondition v => exact inOrder_of_fullView (t := s.setRunCondition v) rfl h
  | readStatus | readElement | readEntry | readRecord | acknowledgeErrorIndication => exact h

theorem applyRequest_inOrder {s : State} (h : inOrder s) (q : Request) : inOrder (s.applyRequest q) := by
  unfold State.applyRequest
  split
  · next hq => exact effect_inOrder h hq
  · exact h

theorem commitService_inOrder {s : State} (h : inOrder s) (c : Byte) (q : Option Request) (r : Result)
    (x : Option Reason) (judged since : Nat) : inOrder (s.commitService c q r x judged since) := by
  have hindicated := inOrder_of_fullView (indicate_fullView s c r x) h
  unfold State.commitService
  dsimp only
  split
  · split
    · exact applyRequest_inOrder hindicated _
    · exact hindicated
  · exact hindicated

theorem commitItem_inOrder {s : State} (h : inOrder s) (p : PortId) (processed : Bool) (since : Nat) (i : Item) :
    inOrder (State.commitItem p processed since s i) := by
  unfold State.commitItem
  split
  · exact applyElement_inOrder h _ _
  · split
    · exact inOrder_of_fullView (ringTelegram_fullView _ _ _) h
    · exact h
  · exact commitService_inOrder h _ _ _ _ _ _

theorem itemsCommitted_inOrder {s : State} (h : inOrder s) (p : PortId) (f : Frame) : inOrder (itemsCommitted s p f) := by
  unfold itemsCommitted
  generalize s.checker.loads = n
  induction f.standing generalizing s with
  | nil => exact h
  | cons i l ih => exact ih (commitItem_inOrder h p f.processed n i)

theorem renewSilence_fullView (s : State) (p : PortId) : fullView (s.renewSilence p) = fullView s := by
  unfold State.renewSilence
  dsimp only
  split
  · exact (note_fullView _ _ _ _).trans (modifyPort_fullView s p fun x =>
      { x with activity := .active, silenceDeadline := some (s.time.elapsed + x.silenceLimit * 1000) })
  · exact modifyPort_fullView s p fun x =>
      { x with activity := .active, silenceDeadline := some (s.time.elapsed + x.silenceLimit * 1000) }

theorem commit_inOrder {s : State} (h : inOrder s) (p : PortId) (f : Frame) : inOrder (s.commit p f) := by
  rw [commit_eq]
  refine inOrder_of_fullView ?_ (itemsCommitted_inOrder h p f)
  rw [applyLoop_fullView, renewSilence_fullView, modifyPort_fullView]

theorem frameEnd_inOrder {s : State} (h : inOrder s) (p : PortId) (o : List Byte) : inOrder (s.frameEnd p o) := by
  have hleft : ∀ f, inOrder (frameLeft s p f) := fun f =>
    inOrder_of_fullView (fullView_of_sameBut (frameLeft_sameBut s p f)) h
  unfold State.frameEnd
  split
  · exact inOrder_of_fullView (modifyPort_fullView s p _) h
  · next f hf =>
    dsimp only
    split
    · exact inOrder_of_fullView ((modifyPort_fullView _ p _).trans (cut_fullView s p _)) h
    · change inOrder (if _ then if _ then (frameLeft s p (f.flush.pass o)).commit p (f.flush.pass o) else
        frameLeft s p (f.flush.pass o) else (frameLeft s p (f.flush.pass o)).modifyPort p Port.countBad)
      split
      · split
        · exact commit_inOrder (hleft _) p _
        · exact hleft _
      · exact inOrder_of_fullView (modifyPort_fullView _ p _) (hleft _)

/-! ## Every step (log 3, R187) -/

/-- Every row that is not of power keeps the tables in order. -/
theorem rowEffect_inOrder {s : State} (h : inOrder s) (i : Instr) : inOrder (rowEffect i s) := by
  cases i with
  | frameEnd _ p o => exact frameEnd_inOrder h p o
  | elementSilenceDeadline _ a => exact silenceDeadline_inOrder h a
  | startDeadline _ a => exact startDeadline_inOrder h a
  | runDeadline _ a => exact runDeadline_inOrder h a
  | settleDeadline _ a => exact settleDeadline_inOrder h a
  | confirmDeadline _ a => exact confirmDeadline_inOrder h a
  | firstLinkReport _ p up => exact inOrder_of_fullView (firstReport_fullView s p up) h
  | linkDown _ p => exact inOrder_of_fullView (linkDown_fullView s p) h
  | linkUp _ p => exact inOrder_of_fullView (linkUp_fullView s p) h
  | loopStateChange _ p => exact inOrder_of_fullView (applyLoop_fullView s p) h
  | frameStart _ p head => exact inOrder_of_fullView (fullView_of_sameBut (frameStart_sameBut s p head)) h
  | telegramParse _ p o => exact inOrder_of_fullView (telegramParse_fullView s p o) h
  | telegramCheck _ p check => exact inOrder_of_fullView (telegramCheck_fullView s p check) h
  | frameCut _ p o => exact inOrder_of_fullView (frameCut_fullView s p o) h
  | portSilenceDeadline _ p => exact inOrder_of_fullView (portSilence_fullView s p) h
  | lastOctetLeft _ p => exact inOrder_of_fullView (lastOctetLeft_fullView s p) h
  | referenceMessage _ w o => exact inOrder_of_fullView (referenceMessage_fullView s w o) h
  | messageOctet _ w b => exact inOrder_of_fullView (messageOctet_fullView s w b) h
  | messageOctetTimeout _ w => exact inOrder_of_fullView (octetTimeout_fullView s w) h
  | messageFramingError _ w => exact inOrder_of_fullView (setWired_fullView s w _) h
  | markLeadingEdge _ w => exact inOrder_of_fullView (leadingEdge_fullView s w) h
  | markTrailingEdge _ w => exact inOrder_of_fullView (trailingEdge_fullView s w) h
  | markWidthLimit _ w => exact inOrder_of_fullView (widthLimit_fullView s w) h
  | markDeadline _ x => exact inOrder_of_fullView (markDeadline_fullView s x) h
  | absenceDeadline _ x => exact inOrder_of_fullView (absenceDeadline_fullView s x) h
  | revertInstant _ x => exact inOrder_of_fullView (revertInstant_fullView s x) h
  | holdoverSecond _ => exact inOrder_of_fullView (holdoverSecond_fullView s) h
  | scaleEndHold _ => exact inOrder_of_fullView (scaleEndHold_fullView s) h
  | secondMarkStart _ => exact inOrder_of_fullView (secondMarkStart_fullView s) h
  | secondMarkEnd _ => exact inOrder_of_fullView (secondMarkFall_fullView s) h
  | offsetChangeInstant _ => exact inOrder_of_fullView (takeOffset_fullView s) h
  | changeover _ => exact inOrder_of_fullView (takeChangeover_fullView s) h
  | drainEnd _ => exact inOrder_of_fullView (takeDrainEnd_fullView s) h
  | timetableExpiry _ => exact inOrder_of_fullView (expireDue_fullView s) h
  | pulseStart _ l => exact inOrder_of_fullView (startPulse_fullView s l) h
  | currentPresent _ l active => exact inOrder_of_fullView (modifyLine_fullView s l _) h
  | pulseEnd _ l => exact inOrder_of_fullView (endPulse_fullView s l) h
  | overcurrent _ l active =>
    exact inOrder_of_fullView ((senseShort_fullView _ l).trans (modifyLine_fullView s l _)) h
  | retryDeadline _ l => exact inOrder_of_fullView (endRetry_fullView s l) h
  | powerOn _ => exact h
  | resetAssert => exact h
  | _ => exact inOrder_of_fullView (passRequest_fullView s _ _) h

/-- Every command keeps the tables in order. -/
theorem exec_inOrder {s t : State} {i : Instr} (hs : inOrder s) (h : exec i s = .next t) : inOrder t := by
  by_cases hp : ∃ b, i = .powerOn b
  · obtain ⟨b, rfl⟩ := hp
    obtain rfl := (Host.Outcome.next.inj h).symm
    exact inOrder_of_empty rfl rfl
  · by_cases hr : i = .resetAssert
    · subst hr
      obtain rfl := (Host.Outcome.next.inj h).symm
      exact inOrder_of_empty rfl rfl
    · rw [exec_eq_timed (fun b hb => hp ⟨b, hb⟩) hr] at h
      obtain rfl := (Host.Outcome.next.inj h).symm
      split
      · exact hs
      · exact rowEffect_inOrder (inOrder_of_fullView (fullView_of_eq (by simp) (by simp) (by simp)) hs) i

/-- What the part does on an empty queue leaves the tables (log 3). -/
theorem idle_fullView (s : State) : fullView s.idle = fullView s := by
  unfold State.idle
  split
  · rfl
  · split <;> rfl

end Sys2Proof.Laws

namespace Sys2Proof.Proofs

open Sys2Proof Sys2Proof.Machine Sys2Proof.Laws

/-- Settles O60: an empty queue leaves the tables, and every command keeps them in order. -/
theorem tablesStayInOrder : Obligations.TablesStayInOrder := by
  intro s t htables hquiet hrefs h
  have hs : inOrder s := ⟨htables, hquiet, hrefs⟩
  unfold step at h
  split at h
  · obtain rfl := (Host.Outcome.next.inj h).symm
    exact inOrder_of_fullView (idle_fullView s) hs
  · next c rest _ =>
    have hrest : inOrder { s with pending := rest } := hs
    exact exec_inOrder hrest h

end Sys2Proof.Proofs
end

section
/-! SUPPORT. An admission attempt and a raise read the record, the time base and the latches alone, so they commute with
writes to the other fields. -/

namespace Sys2Proof.Laws

open Sys2Proof Sys2Proof.Machine

/-! ## Admission and writes to other blocks (R149) -/

theorem writeGap_with (s : State) (l : List ElementRecord) (x : AlarmUnit) :
    State.writeGap { s with elements := l, alarms := x } = { s.writeGap with elements := l, alarms := x } := by
  unfold State.writeGap
  cases s.record.tally <;> rfl

theorem gapRule_with (s : State) (l : List ElementRecord) (x : AlarmUnit) :
    State.gapRule { s with elements := l, alarms := x } = { s.gapRule with elements := l, alarms := x } := by
  unfold State.gapRule
  by_cases h : s.record.occupancy < Config.maxRecord
  · rw [if_pos h, if_pos h]
    exact writeGap_with s l x
  · rw [if_neg h, if_neg h]

/-- An admission reads neither the element table nor the alarm unit (R149 to R153). -/
theorem attempt_with (s : State) (l : List ElementRecord) (x : AlarmUnit) (d : Draft) :
    State.attempt { s with elements := l, alarms := x } d = { s.attempt d with elements := l, alarms := x } := by
  have hgap : (if d.alarm then State.gapRule { s with elements := l, alarms := x } else { s with elements := l, alarms := x })
      = { (if d.alarm then s.gapRule else s) with elements := l, alarms := x } := by
    split
    · exact gapRule_with s l x
    · rfl
  unfold State.attempt
  rw [hgap]
  generalize (if d.alarm then s.gapRule else s) = u
  by_cases h : u.hasRoom d.alarm = true
  · rw [if_pos h]
    exact if_pos h
  · rw [if_neg h]
    exact if_neg h

/-- The record that an admission leaves depends on the record and the time base alone (R149 to R153). -/
theorem record_attempt_congr {s t : State} (hr : t.record = s.record) (ht : t.time = s.time) (d : Draft) :
    (t.attempt d).record = (s.attempt d).record := by
  have hwith := congrArg State.record (attempt_with t s.elements s.alarms d)
  have hsame : sameForRecord s { t with elements := s.elements, alarms := s.alarms } := by simp [sameForRecord, hr, ht]
  exact hwith.symm.trans (attempt_congr hsame d).1

theorem record_note_of_eq {s t : State} (hr : t.record = s.record) (ht : t.time = s.time) (c : Capture) (b : EntryBody)
    (a : Bool) : (t.note c b a).record = (s.note c b a).record := record_attempt_congr hr ht _

/-- An admission commutes with a change of a record (R149). -/
theorem attempt_modifyElement (s : State) (a : Nat) (f : ElementRecord → ElementRecord) (d : Draft) :
    (s.modifyElement a f).attempt d = (s.attempt d).modifyElement a f := by
  have hwith := attempt_with s (s.modifyElement a f).elements s.alarms d
  have helements : (s.attempt d).elements = s.elements := by simp
  have halarms : (s.attempt d).alarms = s.alarms := by simp
  simp only [State.modifyElement] at hwith ⊢
  rw [hwith, helements, ← halarms]

/-! ## Raises and the point fields of a record (R157, R159) -/

theorem modifyElement_comm (s : State) (a b : Nat) {f g : ElementRecord → ElementRecord}
    (hf : ∀ r, (f r).address = r.address) (hg : ∀ r, (g r).address = r.address) (hc : ∀ r, f (g r) = g (f r)) :
    (s.modifyElement a f).modifyElement b g = (s.modifyElement b g).modifyElement a f := by
  simp only [State.modifyElement, List.map_map]
  congr 1
  refine List.map_congr_left fun r _ => ?_
  have hfa : ∀ n, ((f r).address = n) = (r.address = n) := fun n => congrArg (· = n) (hf r)
  have hga : ∀ n, ((g r).address = n) = (r.address = n) := fun n => congrArg (· = n) (hg r)
  simp only [Function.comp_apply, apply_ite f, apply_ite g, apply_ite ElementRecord.address, hc]
  split_ifs <;> simp_all

theorem mapPoint_address (r : ElementRecord) (f : PointPart → PointPart) : (r.mapPoint f).address = r.address := by
  unfold ElementRecord.mapPoint
  cases r.part <;> rfl

theorem mapPoint_latched (r : ElementRecord) (f : PointPart → PointPart) : (r.mapPoint f).latched = r.latched := by
  unfold ElementRecord.mapPoint
  cases r.part <;> rfl

theorem latch_mapPoint (r : ElementRecord) (f : PointPart → PointPart) (x : Option Latched) :
    { r.mapPoint f with latched := x } = ElementRecord.mapPoint { r with latched := x } f := by
  unfold ElementRecord.mapPoint
  cases hp : r.part <;> simp [hp]

theorem latchOf_modifyPoint (s : State) (a : Nat) (f : PointPart → PointPart) (t : LatchTarget) :
    (s.modifyPoint a f).latchOf t = s.latchOf t := by
  cases t with
  | element b =>
    obtain rfl | hb := eq_or_ne b a
    · simp only [State.latchOf, State.modifyPoint, element_modifyElement_same s b _ fun r => mapPoint_address r f,
        Option.bind_map]
      congr 1
      exact funext fun r => mapPoint_latched r f
    · simp only [State.latchOf, State.modifyPoint, element_modifyElement_ne s _ (fun r => mapPoint_address r f) hb]
  | time => rfl
  | line l => cases l <;> rfl
  | port p => cases p <;> rfl

theorem setLatch_modifyPoint (s : State) (a : Nat) (f : PointPart → PointPart) (t : LatchTarget) (x : Option Latched) :
    (s.modifyPoint a f).setLatch t x = (s.setLatch t x).modifyPoint a f := by
  cases t with
  | element b =>
    exact modifyElement_comm s a b (fun r => mapPoint_address r f) (fun _ => rfl) fun r => (latch_mapPoint r f x).symm
  | time => rfl
  | line l => cases l <;> rfl
  | port p => cases p <;> rfl

theorem anyLatch_modifyPoint (s : State) (a : Nat) (f : PointPart → PointPart) :
    (s.modifyPoint a f).anyLatch = s.anyLatch := by
  have hany : (s.modifyPoint a f).elements.any (fun r => r.latched.isSome) = s.elements.any fun r => r.latched.isSome := by
    simp only [State.modifyPoint, State.modifyElement, List.any_map]
    congr 1
    funext r
    by_cases hr : r.address = a <;> simp [hr, mapPoint_latched]
  unfold State.anyLatch
  rw [hany]
  rfl

theorem latch_modifyPoint (s : State) (a : Nat) (f : PointPart → PointPart) (t : LatchTarget) (k : LatchKind)
    (c : Capture) : (s.modifyPoint a f).latch t k c = (s.latch t k c).modifyPoint a f := by
  unfold State.latch
  rw [latchOf_modifyPoint]
  cases s.latchOf t with
  | some x => rfl
  | none =>
    dsimp only
    change ((s.modifyPoint a f).setLatch t (some { kind := k, stamp := s.stampOf c })).evalAlarm = _
    rw [setLatch_modifyPoint]
    unfold State.evalAlarm
    rw [anyLatch_modifyPoint]
    rfl

/-- A raise commutes with a change of the point fields of a record (R157, R159). -/
theorem raise_modifyPoint (s : State) (a : Nat) (f : PointPart → PointPart) (r : Raise) :
    (s.modifyPoint a f).raise r = (s.raise r).modifyPoint a f := by
  unfold State.raise
  rw [latchOf_modifyPoint, latch_modifyPoint]
  change (match appliedAction (s.actionOf r.kind) r.qualified with
    | .off => _ | .record => _ | .alert => _ | .latch => _) = _
  cases appliedAction (s.actionOf r.kind) r.qualified with
  | off => rfl
  | record => exact attempt_modifyElement s a _ _
  | alert => exact attempt_modifyElement s a _ _
  | latch => exact attempt_modifyElement _ a _ _

theorem note_modifyPoint (s : State) (a : Nat) (f : PointPart → PointPart) (c : Capture) (b : EntryBody) (x : Bool) :
    (s.modifyPoint a f).note c b x = (s.note c b x).modifyPoint a f := attempt_modifyElement s a _ _

end Sys2Proof.Laws
end

section
/-! SUPPORT. A point's movement through a command and the deadlines that it sets. -/

namespace Sys2Proof.Laws

open Sys2Proof Sys2Proof.Machine

/-! ## The movement of a record (R94) -/

/-- A point record with a movement written. -/
def withMovement (r : ElementRecord) (m : Option Movement) : ElementRecord :=
  r.mapPoint fun p => { p with movement := m }

theorem withMovement_of_point {r : ElementRecord} {p : PointPart} (hp : r.part = .point p) (m : Option Movement) :
    withMovement r m = { r with part := .point { p with movement := m } } := by
  simp only [withMovement, ElementRecord.mapPoint, hp]

theorem unlatched_withMovement (r : ElementRecord) (m : Option Movement) :
    (withMovement r m).unlatched = withMovement r.unlatched m := (latch_mapPoint r _ none)

theorem element_setMovement (s : State) (a : Nat) (m : Option Movement) :
    (s.setMovement a m).element a = (s.element a).map (withMovement · m) :=
  element_modifyElement_same s a _ fun r => mapPoint_address r _

theorem element_setMovement_ne (s : State) {a b : Nat} (m : Option Movement) (h : b ≠ a) :
    (s.setMovement a m).element b = s.element b := element_modifyElement_ne s _ (fun r => mapPoint_address r _) h

/-- The movement written last stands. -/
theorem setMovement_setMovement (s : State) (a : Nat) (m n : Option Movement) :
    (s.setMovement a m).setMovement a n = s.setMovement a n := by
  simp only [State.setMovement, State.modifyPoint, State.modifyElement, List.map_map]
  congr 1
  refine List.map_congr_left fun r _ => ?_
  have htwice : (r.mapPoint fun p => { p with movement := m }).mapPoint (fun p => { p with movement := n })
      = r.mapPoint fun p => { p with movement := n } := by
    unfold ElementRecord.mapPoint
    cases hp : r.part <;> simp [hp]
  by_cases hr : r.address = a
  · simp only [Function.comp_apply, if_pos hr]
    rw [if_pos ((mapPoint_address r _).trans hr), htwice]
  · simp only [Function.comp_apply, if_neg hr]

theorem note_setMovement (s : State) (a : Nat) (m : Option Movement) (c : Capture) (b : EntryBody) :
    (s.setMovement a m).note c b = (s.note c b).setMovement a m := note_modifyPoint s a _ c b false

theorem elementFault_setMovement (s : State) (a b : Nat) (m : Option Movement) (c : Capture) (d : FaultDetail) :
    (s.setMovement a m).elementFault b c d = (s.elementFault b c d).setMovement a m := raise_modifyPoint s a _ _

/-! ## Reports on an element (R88, R108, R109) -/

/-- The states differ in entries handed to the record, in the fault latched for an element, and within a list of blocks. -/
def reported (a : Nat) (l : List Block) (s t : State) : Prop :=
  sameElements s t ∧ othersSame s t a ∧ sameBut s t l

theorem reported_trans {a : Nat} {l : List Block} {s t u : State} (h : reported a l s t) (k : reported a l t u) :
    reported a l s u := by
  obtain ⟨he, ho, hb⟩ := h
  obtain ⟨ke, ko, kb⟩ := k
  exact ⟨sameElements_trans he ke, fun b hne => (ko b hne).trans (ho b hne), sameBut_trans hb kb⟩

theorem reported_mono {a : Nat} {l m : List Block} {s t : State} (h : reported a l s t) (k : ∀ b ∈ l, b ∈ m) :
    reported a m s t := ⟨h.1, h.2.1, sameBut_mono h.2.2 k⟩

theorem note_reported (a : Nat) (s : State) (c : Capture) (b : EntryBody) : reported a [.record] s (s.note c b) :=
  ⟨sameElements_of_eq (by simp), fun b _ => by simp [State.element], note_sameBut s c b false⟩

theorem elementFault_reported (a : Nat) (s : State) (c : Capture) (d : FaultDetail) :
    reported a [.record, .alarms, .elements] s (s.elementFault a c d) := by
  refine ⟨raise_sameElements s _, fun b hb => element_raise_ne s _ b ?_, fun b hb => ?_⟩
  · intro h
    exact hb (LatchTarget.element.inj h).symm
  · cases b <;> simp_all [Block.same]

/-- A report and then a movement written: the record at the address, those at others, and the other blocks. -/
theorem setMovement_of_reported {a : Nat} {l : List Block} {s t : State} {r : ElementRecord} {p : PointPart}
    (h : reported a l s t) (hl : Block.elements ∈ l) (hr : s.element a = some r) (hp : r.part = .point p)
    (m : Option Movement) :
    (∃ q, (t.setMovement a m).element a = some q
      ∧ q.unlatched = { r.unlatched with part := .point { p with movement := m } })
    ∧ othersSame s (t.setMovement a m) a ∧ sameBut s (t.setMovement a m) l := by
  obtain ⟨he, ho, hb⟩ := h
  have hsame := element_of_sameElements he a
  rw [hr, Option.map_some, Option.map_eq_some_iff] at hsame
  obtain ⟨q, hq, hqr⟩ := hsame
  refine ⟨⟨withMovement q m, by rw [element_setMovement, hq]; rfl, ?_⟩, fun b hne => ?_,
    sameBut_trans hb (sameBut_mono (l := [.elements]) (fun b hb => ?_) (by simpa using hl))⟩
  · rw [unlatched_withMovement, hqr]
    exact withMovement_of_point (r := r.unlatched) hp m
  · rw [element_setMovement_ne t m hne, ho b hne]
  · cases b with
    | elements => exact absurd (List.mem_singleton.mpr rfl) hb
    | _ => rfl

/-- Entries handed to the record and then a movement written. -/
theorem setMovement_of_noted {a : Nat} {s t : State} {r : ElementRecord} {p : PointPart} (h : sameBut s t [.record])
    (hr : s.element a = some r) (hp : r.part = .point p) (m : Option Movement) :
    (t.setMovement a m).element a = some { r with part := .point { p with movement := m } }
      ∧ othersSame s (t.setMovement a m) a ∧ sameBut s (t.setMovement a m) [.elements, .record] := by
  have he : ∀ b, t.element b = s.element b := by
    intro b
    have := h .elements (by decide)
    simp only [Block.same] at this
    simp [State.element, this]
  have hreported : reported a [.elements, .record] s t :=
    ⟨sameElements_of_eq (h .elements (by decide)), fun b _ => he b, sameBut_mono h (by decide)⟩
  obtain ⟨-, ho, hb⟩ := setMovement_of_reported hreported (by decide) hr hp m
  refine ⟨?_, ho, hb⟩
  rw [element_setMovement, he a, hr, Option.map_some, withMovement_of_point hp]

/-! ## The start and the run deadline (R99, R101, R110) -/

section
variable {s : State} {a : Nat} {r : ElementRecord} {p : PointPart} {m : Movement} (hr : s.element a = some r)
  (hp : r.part = .point p) (hm : p.movement = some m)
include hr hp hm

theorem startDeadline_of_reached (hc : m.phase = .commanded) (hd : m.startDeadline ≤ s.time.elapsed) :
    s.startDeadline a =
      (s.elementFault a s.capture (.failedToStart m.target m.origin p.startLimit m.command.stamp)).setMovement a
        (some { m with phase := .moving }) := by
  simp only [State.startDeadline, hr, hp, hm, hc, hd, and_self, if_true]

theorem startDeadline_of_before (hd : s.time.elapsed < m.startDeadline) : s.startDeadline a = s := by
  simp only [State.startDeadline, hr, hp, hm, Nat.not_le.mpr hd, and_false, if_false]

/-- A run deadline reached before the point has arrived ends the movement (R101). -/
theorem runDeadline_of_reached (hc : m.phase ≠ .settling) (hd : m.runDeadline ≤ s.time.elapsed) :
    s.runDeadline a =
      (s.elementFault a s.capture
        (.failedToDetect m.target m.origin p.runLimit (fresh r.lastStatus) (m.leave.map (·.stamp)) m.bounces)).endMovement
          a m .failed s.capture none (some .failedToDetect) := by
  have hfail : s.runDeadline a = s.failToDetect r p m s.capture := by
    cases hphase : m.phase with
    | settling => exact absurd hphase hc
    | commanded => simp only [State.runDeadline, hr, hp, hm, hd, hphase, if_true]
    | moving => simp only [State.runDeadline, hr, hp, hm, hd, hphase, if_true]
  rw [hfail, State.failToDetect, element_address hr]

theorem runDeadline_of_before (hd : s.time.elapsed < m.runDeadline) : s.runDeadline a = s := by
  simp only [State.runDeadline, hr, hp, hm, Nat.not_le.mpr hd, if_false]

theorem startAndRunReached_iff (hc : m.phase = .commanded) :
    s.startAndRunReached a = true ↔ m.startDeadline ≤ s.time.elapsed ∧ m.runDeadline ≤ s.time.elapsed := by
  have hmove : (s.element a).bind (·.movement) = some m := by
    rw [hr, Option.bind_some, ElementRecord.movement, hp]
    exact hm
  simp [State.startAndRunReached, hmove, hc]

end

/-! ## A movement just written and its deadlines (R97, R99, R101, R110, R111) -/

/-- The fault of a movement that has not left its place (R99). -/
def startFault (p : PointPart) (m : Movement) : FaultDetail :=
  .failedToStart m.target m.origin p.startLimit m.command.stamp

/-- The fault of a movement that has not arrived (R101). -/
def detectFault (r : ElementRecord) (p : PointPart) (m : Movement) : FaultDetail :=
  .failedToDetect m.target m.origin p.runLimit (fresh r.lastStatus) (m.leave.map (·.stamp)) m.bounces

/-- The part once a movement has failed at its run deadline (R101, R108). -/
def failedAt (s : State) (a : Nat) (r : ElementRecord) (p : PointPart) (m : Movement) : State :=
  (s.elementFault a s.capture (detectFault r p m)).note s.capture
    (.movement (m.entry a .failed none (some .failedToDetect)))

theorem failedAt_reported (s : State) (a : Nat) (r : ElementRecord) (p : PointPart) (m : Movement) :
    reported a [.record, .alarms, .elements] s (failedAt s a r p m) :=
  reported_trans (elementFault_reported a s _ _) (reported_mono (note_reported a _ _ _) (by decide))

theorem record_failedAt_congr {s t : State} (h : sameForRecord s t) (a : Nat) (r : ElementRecord) (p : PointPart)
    (m : Movement) : (failedAt t a r p m).record = (failedAt s a r p m).record := by
  unfold failedAt
  rw [capture_congr h]
  exact record_note_congr (raise_congr h _) _ _ _

section
variable {s : State} {a : Nat} {r : ElementRecord} {p : PointPart} (hr : s.element a = some r) (hp : r.part = .point p)
  (m : Movement)
include hr hp

theorem element_moved : (s.setMovement a (some m)).element a = some { r with part := .point { p with movement := some m } } := by
  rw [element_setMovement, hr, Option.map_some, withMovement_of_point hp]

theorem startDeadline_setMovement (hc : m.phase = .commanded) (hd : m.startDeadline ≤ s.time.elapsed) :
    (s.setMovement a (some m)).startDeadline a =
      (s.elementFault a s.capture (startFault p m)).setMovement a (some { m with phase := .moving }) := by
  rw [startDeadline_of_reached (element_moved hr hp m) rfl rfl hc hd, elementFault_setMovement, setMovement_setMovement]
  rfl

theorem runDeadline_setMovement (hc : m.phase ≠ .settling) (hd : m.runDeadline ≤ s.time.elapsed) :
    (s.setMovement a (some m)).runDeadline a = (failedAt s a r p m).setMovement a none := by
  rw [runDeadline_of_reached (element_moved hr hp m) rfl rfl hc hd, State.endMovement, elementFault_setMovement,
    setMovement_setMovement, note_setMovement]
  rfl

/-- A movement whose deadlines are ahead goes on (R97). -/
theorem takeReached_of_before (hc : m.phase = .commanded) (hs : s.time.elapsed < m.startDeadline)
    (hd : s.time.elapsed < m.runDeadline) : (s.setMovement a (some m)).takeReached a = s.setMovement a (some m) := by
  have hreached : ¬ (s.setMovement a (some m)).startAndRunReached a = true := by
    rw [startAndRunReached_iff (element_moved hr hp m) rfl rfl hc]
    exact fun h => absurd hs (Nat.not_lt.mpr h.1)
  rw [State.takeReached, if_neg hreached, startDeadline_of_before (element_moved hr hp m) rfl rfl hs,
    runDeadline_of_before (element_moved hr hp m) rfl rfl hd]

/-- A report on an element leaves its record but for the latch. -/
theorem element_of_reported {l : List Block} {t : State} (h : reported a l s t) :
    ∃ q, t.element a = some q ∧ q.part = .point p ∧ q.lastStatus = r.lastStatus := by
  have hsame := element_of_sameElements h.1 a
  rw [hr, Option.map_some, Option.map_eq_some_iff] at hsame
  obtain ⟨q, hq, hqr⟩ := hsame
  have hpart : q.part = r.part := (ElementRecord.mk.inj hqr).2.2.2.2.2.2.2.2.2.2.2.2
  have hstatus : q.lastStatus = r.lastStatus := by simpa [ElementRecord.unlatched] using congrArg ElementRecord.lastStatus hqr
  exact ⟨q, hq, hpart.trans hp, hstatus⟩

/-- A start deadline already reached is taken with the command (R99, R110). -/
theorem takeReached_of_start (hc : m.phase = .commanded) (hs : m.startDeadline ≤ s.time.elapsed)
    (hd : s.time.elapsed < m.runDeadline) :
    (s.setMovement a (some m)).takeReached a =
      (s.elementFault a s.capture (startFault p m)).setMovement a (some { m with phase := .moving }) := by
  have hreached : ¬ (s.setMovement a (some m)).startAndRunReached a = true := by
    rw [startAndRunReached_iff (element_moved hr hp m) rfl rfl hc]
    exact fun h => absurd hd (Nat.not_lt.mpr h.2)
  obtain ⟨q, hq, hpart, -⟩ := element_of_reported hr hp (elementFault_reported a s s.capture (startFault p m))
  rw [State.takeReached, if_neg hreached, startDeadline_setMovement hr hp m hc hs]
  exact runDeadline_of_before (element_moved hq hpart { m with phase := .moving }) rfl rfl (by simpa using hd)

/-- A start deadline and then a run deadline (R99, R101). -/
theorem startThenRun_setMovement (hc : m.phase = .commanded) (hs : m.startDeadline ≤ s.time.elapsed)
    (hd : m.runDeadline ≤ s.time.elapsed) :
    ((s.setMovement a (some m)).startDeadline a).runDeadline a =
      (failedAt (s.elementFault a s.capture (startFault p m)) a r p m).setMovement a none := by
  obtain ⟨q, hq, hpart, hstatus⟩ := element_of_reported hr hp (elementFault_reported a s s.capture (startFault p m))
  rw [startDeadline_setMovement hr hp m hc hs,
    runDeadline_setMovement hq hpart { m with phase := .moving } (by simp) (by simpa using hd)]
  simp only [failedAt, detectFault, hstatus]
  rfl

/-- A run deadline already reached is taken with the command, after the start deadline where that is reached too and the
free order puts it first (R101, R110, R111; log 18). -/
theorem takeReached_of_run (hc : m.phase = .commanded) (hd : m.runDeadline ≤ s.time.elapsed) :
    ∃ w v, (w = s ∨ (m.startDeadline ≤ s.time.elapsed ∧ w = s.elementFault a s.capture (startFault p m)))
      ∧ sameForRecord w v ∧ reported a [.elements, .record, .alarms, .choices] s v
      ∧ (s.setMovement a (some m)).takeReached a = (failedAt v a r p m).setMovement a none := by
  have hne : m.phase ≠ .settling := by simp [hc]
  have hiff := startAndRunReached_iff (element_moved hr hp m) rfl rfl hc
  by_cases hs : m.startDeadline ≤ s.time.elapsed
  · let u : State := { s with choices := s.choices + 1 }
    have hu : sameForRecord s u := by simp [sameForRecord, u]
    have hru : reported a [.elements, .record, .alarms, .choices] s u :=
      ⟨sameElements_of_eq rfl, fun _ _ => rfl, fun b hb => by cases b <;> simp_all [Block.same, u]⟩
    have htake : (s.setMovement a (some m)).takeReached a =
        if Config.startFirst s.choices then ((u.setMovement a (some m)).startDeadline a).runDeadline a
        else (u.setMovement a (some m)).runDeadline a := if_pos (hiff.mpr ⟨hs, hd⟩)
    rw [htake]
    split
    · exact ⟨_, u.elementFault a u.capture (startFault p m), .inr ⟨hs, rfl⟩, raise_congr hu _,
        reported_trans hru (reported_mono (elementFault_reported a u _ _) (by decide)),
        startThenRun_setMovement (s := u) hr hp m hc hs hd⟩
    · exact ⟨s, u, .inl rfl, hu, hru, runDeadline_setMovement (s := u) hr hp m hne hd⟩
  · refine ⟨s, s, .inl rfl, by simp [sameForRecord], ⟨sameElements_of_eq rfl, fun _ _ => rfl, sameBut_refl s _⟩, ?_⟩
    rw [State.takeReached, if_neg fun h => hs (hiff.mp h).1,
      startDeadline_of_before (element_moved hr hp m) rfl rfl (Nat.lt_of_not_le hs), runDeadline_setMovement hr hp m hne hd]

end

/-! ## A command (R96, R97) -/

/-- The part once a movement in progress has its REVERSED entry (R96). -/
def reversalNoted (s : State) (a : Nat) (p : PointPart) (c : Capture) : State :=
  match p.movement with
  | some k => s.note c (.movement (k.entry a .reversed none none))
  | none => s

theorem reversalNoted_sameBut (s : State) (a : Nat) (p : PointPart) (c : Capture) :
    sameBut s (reversalNoted s a p c) [.record] := by
  unfold reversalNoted
  cases p.movement with
  | none => exact sameBut_refl s _
  | some k => exact note_sameBut s c _ _

theorem reverse_setMovement (s : State) (a : Nat) (p : PointPart) (c : Capture) (m : Option Movement) :
    (s.reverse a p c).setMovement a m = (reversalNoted s a p c).setMovement a m := by
  unfold State.reverse reversalNoted
  cases p.movement with
  | none => rfl
  | some k =>
    dsimp only [State.endMovement]
    rw [note_setMovement, setMovement_setMovement]

/-- A command for the position that is shown moves nothing (R97). -/
theorem pointCommand_of_shown {s : State} {a : Nat} {r : ElementRecord} {p : PointPart} (hr : s.element a = some r)
    (hp : r.part = .point p) {t : Target} (ht : r.detected = some t.detected) (c : Capture) :
    s.pointCommand a t c =
      (s.reverse a p c).note c (.movement ((p.start t r.detected (s.dated c)).entry a .noMove (some 0) none)) := by
  simp only [State.pointCommand, hr, hp, ht, if_true]

theorem pointCommand_of_elsewhere {s : State} {a : Nat} {r : ElementRecord} {p : PointPart} (hr : s.element a = some r)
    (hp : r.part = .point p) {t : Target} (ht : r.detected ≠ some t.detected) (c : Capture) :
    s.pointCommand a t c =
      ((reversalNoted s a p c).setMovement a (some (p.start t r.detected (s.dated c)))).takeReached a := by
  rw [← reverse_setMovement]
  simp only [State.pointCommand, hr, hp, ht, if_false]

/-- The NO_MOVE entry leaves the record without a movement (R97, R108; log 29). -/
theorem noMove_eq {s : State} {a : Nat} {r : ElementRecord} {p : PointPart} (hr : s.element a = some r)
    (hp : r.part = .point p) (c : Capture) (b : EntryBody) :
    ((s.reverse a p c).note c b).element a = some { r with part := .point { p with movement := none } }
      ∧ ((s.reverse a p c).note c b).record = ((reversalNoted s a p c).note c b).record
      ∧ othersSame s ((s.reverse a p c).note c b) a ∧ sameBut s ((s.reverse a p c).note c b) [.elements, .record] := by
  unfold State.reverse reversalNoted
  cases hm : p.movement with
  | none =>
    have hreported := reported_mono (note_reported a s c b) (m := [.elements, .record]) (by decide)
    refine ⟨?_, rfl, hreported.2⟩
    have hsame : r = { r with part := .point { p with movement := none } } := by
      rw [← hm, ← hp]
    rw [← hsame, ← hr]
    simp [State.element]
  | some k =>
    dsimp only [State.endMovement]
    rw [note_setMovement, note_setMovement]
    obtain ⟨he, ho, hb⟩ := setMovement_of_noted (sameBut_trans (note_sameBut s c (.movement (k.entry a .reversed none none)) _)
      (note_sameBut _ c b _)) hr hp none
    exact ⟨he, rfl, ho, hb⟩

end Sys2Proof.Laws
end

namespace Sys2Proof.Proofs

open Sys2Proof Sys2Proof.Machine Sys2Proof.Laws

/-- Settles O22: by the position shown and by which of the deadlines that the command sets are already reached; each outcome
is the entries and faults it reports, and then the movement written. -/
theorem pointCommandStartsMovement : Obligations.PointCommandStartsMovement := by
  intro s a r p x c hr hp shown position m u t
  have hu : u = reversalNoted s a p c := rfl
  have hnoted : sameBut s u [.record] := reversalNoted_sameBut s a p c
  have htime : u.time = s.time := hnoted .time (by decide)
  have hru : u.element a = some r := by
    have helements : u.elements = s.elements := hnoted .elements (by decide)
    rw [State.element, helements]
    exact hr
  have hu_reported : reported a [.elements, .record, .alarms, .choices] s u :=
    ⟨sameElements_of_eq (hnoted .elements (by decide)), fun b _ => by
      rw [State.element, hnoted .elements (by decide)]; rfl, sameBut_mono hnoted (by decide)⟩
  have hcapture : u.capture = s.capture := capture_eq htime
  have hposition : some x.detected = some position := by cases x <;> rfl
  have hmove : shown ≠ some position → t = (u.setMovement a (some m)).takeReached a :=
    fun hne => pointCommand_of_elsewhere hr hp (t := x) (fun h => hne (h.trans hposition)) c
  refine ⟨fun _ _ _ _ => rfl, fun h => ?_, fun hshown => ?_, fun hne hs hd => ?_, fun hne hs hd => ?_, fun hne hd => ?_⟩
  · cases h <;> rfl
  · have hdetected : r.detected = some x.detected := by
      rw [hposition]
      exact hshown
    have ht : t = (s.reverse a p c).note c (.movement (m.entry a .noMove (some 0) none)) :=
      pointCommand_of_shown hr hp (t := x) hdetected c
    rw [ht, hu]
    exact noMove_eq hr hp c _
  · rw [hmove hne, takeReached_of_before hru hp m rfl (htime ▸ hs) (htime ▸ hd)]
    obtain ⟨he, ho, hb⟩ := setMovement_of_noted hnoted hr hp (some m)
    exact ⟨he, rfl, ho, hb⟩
  · rw [hmove hne, takeReached_of_start hru hp m rfl (by rwa [htime]) (by rwa [htime]), hcapture]
    have hreported := reported_trans (l := [.elements, .record, .alarms])
      ⟨hu_reported.1, hu_reported.2.1, sameBut_mono hnoted (by decide)⟩
      (reported_mono (elementFault_reported a u s.capture (startFault p m)) (by decide))
    obtain ⟨⟨q, hq, hqr⟩, ho, hb⟩ := setMovement_of_reported hreported (by decide) hr hp (some { m with phase := .moving })
    exact ⟨q, hq, hqr, rfl, ho, hb⟩
  · obtain ⟨w, v, hw, hsame, hv, htake⟩ := takeReached_of_run hru hp m rfl (htime ▸ hd)
    rw [hmove hne, htake]
    have hreported := reported_trans (reported_trans hu_reported hv)
      (reported_mono (failedAt_reported v a r p m) (by decide))
    obtain ⟨⟨q, hq, hqr⟩, ho, hb⟩ := setMovement_of_reported hreported (by decide) hr hp none
    refine ⟨q, w, hq, hqr, ?_, ?_, ho, hb⟩
    · rw [htime, hcapture] at hw
      exact hw
    · have hwcapture : w.capture = s.capture := by
        obtain rfl | ⟨-, rfl⟩ := hw
        · exact hcapture
        · exact (capture_eq (by simp)).trans hcapture
      refine (record_failedAt_congr hsame a r p m).trans ?_
      rw [failedAt, hwcapture]
      rfl

end Sys2Proof.Proofs

section
/-! SUPPORT. The codes of the requests on the tables, and what each of these requests does at its commit. -/

namespace Sys2Proof.Laws

open Sys2Proof Sys2Proof.Machine

/-! ## Codes (R189) -/

theorem elementKindOf_eq_some_iff {n : Nat} {k : ElementKind} :
    elementKindOf n = some k ↔ n = placeIn [.signal, .point] k := by
  constructor
  · unfold elementKindOf
    split <;> intro h <;> cases h <;> rfl
  · rintro rfl
    cases k <;> rfl

theorem elementModeOf_eq_some_iff {n : Nat} {m : ElementMode} :
    elementModeOf n = some m ↔ n = placeIn [.ignore, .observe, .supervise, .test] m := by
  constructor
  · unfold elementModeOf
    split <;> intro h <;> cases h <;> rfl
  · rintro rfl
    cases m <;> rfl

theorem periodOf_eq_some_iff {n : Nat} {p : Period} : periodOf n = some p ↔ n = placeIn [.a, .b] p := by
  constructor
  · unfold periodOf
    split <;> intro h <;> cases h <;> rfl
  · rintro rfl
    cases p <;> rfl

theorem checkOf_eq_some_iff {n : Nat} {k : CheckKind} : checkOf n = some k ↔ n = placeIn [.cleared, .passed] k := by
  constructor
  · unfold checkOf
    split <;> intro h <;> cases h <;> rfl
  · rintro rfl
    cases k <;> rfl

theorem granted_iff {r : Result} : r.granted = true ↔ r = .done ∨ r = .doneClamped := by
  cases r <;> simp [Result.granted]

/-- A request that its rule grants stands at its commit (R179). -/
theorem applyRequest_of_granted {s : State} {q : Request} (h : (s.judge q).1.granted = true) :
    s.applyRequest q = s.effect q := by
  cases q with
  | acknowledgeRecord n => rfl
  | _ => exact applyRequest_of_stands s _ h

/-! ## The tables once a request has changed them (R61, R66, R67, R125, R133 to R135) -/

/-- A list with a member put in its place holds that one under its key, and under the others what it held. -/
theorem find?_insertKeyed {α : Type} (key : α → Nat) (x : α) (l : List α) (a : Nat) :
    (insertKeyed key x l).find? (fun y => key y == a) =
      if key x = a then some x else l.find? (fun y => key y == a) := by
  induction l with
  | nil => by_cases h : key x = a <;> simp [insertKeyed, h]
  | cons y l ih =>
    unfold insertKeyed
    split
    · by_cases h : key x = a <;> simp [h]
    · split
      · next hy => by_cases h : key x = a <;> simp [h, hy ▸ h]
      · next hy =>
        by_cases ha : key y = a
        · simp [ha, show key x ≠ a from fun h => hy (h.trans ha.symm)]
        · simpa [ha] using ih

/-- A list without the members of one key holds what it held under the others. -/
theorem find?_filter_key {α : Type} (key : α → Nat) (l : List α) (a b : Nat) :
    (l.filter fun y => decide (key y ≠ b)).find? (fun y => key y == a) =
      if a = b then none else l.find? (fun y => key y == a) := by
  rw [List.find?_filter]
  split
  · next h => exact List.find?_eq_none.mpr fun y _ => by simp [h]
  · next h =>
    congr 1
    funext y
    by_cases hy : key y = a <;> simp [hy, h]

theorem element_loadElement {s : State} {p : LoadElementParams} {k : ElementKind} {m : ElementMode} {f : Bool}
    (h : loadArguments p = some (k, m, f)) (a : Nat) :
    (s.loadElement p).element a =
      if p.address = a then some (loadedRecord k m p (((s.element p.address).map (·.references)).getD 0))
      else s.element a := by
  rw [loadElement_of_arguments h]
  change (insertElement _ s.elements).find? _ = _
  rw [insertElement_eq, find?_insertKeyed]
  rfl

theorem loadElement_sameBut (s : State) (p : LoadElementParams) : sameBut s (s.loadElement p) [.elements, .alarms] := by
  unfold State.loadElement
  cases loadArguments p with
  | none => exact sameBut_refl s _
  | some x =>
    intro b hb
    cases b <;> simp_all [Block.same, State.evalAlarm]

theorem element_unloadElement (s : State) (a b : Nat) :
    (s.unloadElement a).element b = if b = a then none else s.element b :=
  find?_filter_key ElementRecord.address s.elements b a

theorem unloadElement_sameBut (s : State) (a : Nat) : sameBut s (s.unloadElement a) [.elements, .alarms] := by
  intro b hb
  cases b <;> simp_all [Block.same, State.unloadElement, State.evalAlarm]

theorem entry_loadEntry {s : State} {p : LoadEntryParams} {t : Period} {c : CheckKind}
    (h : entryArguments p = some (t, c)) (i : Nat) :
    (s.loadEntry p).entry i = if p.id = i then some (s.checker.entryOf p t c) else s.entry i := by
  rw [loadEntry_of_arguments h]
  change (insertEntry _ s.checker.store).find? _ = _
  rw [insertEntry_eq, find?_insertKeyed]
  rfl

/-- The arguments of a load that is acceptable, each in its set (R132, case 1). -/
theorem entryArguments_eq_some {p : LoadEntryParams} {t : Period} {c : CheckKind} :
    entryArguments p = some (t, c) ↔
      periodOf p.period = some t ∧ checkOf p.check = some c ∧ tagValid p.train = true
        ∧ isElementAddress p.element = true ∧ p.scheduled.second < 86400 := by
  unfold entryArguments
  split
  · next hp hc =>
    rw [hp, hc]
    simp only [Option.ite_none_right_eq_some, Option.some.injEq, Prod.mk.injEq]
    tauto
  · next hnone =>
    simp only [reduceCtorEq, false_iff]
    rintro ⟨hp, hc, -⟩
    exact hnone _ _ hp hc

theorem loadEntry_sameBut {s : State} {p : LoadEntryParams} {t : Period} {c : CheckKind}
    (h : entryArguments p = some (t, c)) : sameBut s (s.loadEntry p) [.checker, .elements] := by
  rw [loadEntry_of_arguments h]
  intro b hb
  cases b <;> simp_all [Block.same]

theorem erasePeriod_sameBut {s : State} {n : Nat} {t : Period} (h : periodOf n = some t) :
    sameBut s (s.erasePeriod n) [.checker, .elements] := by
  rw [erasePeriod_of_code h]
  intro b hb
  cases b <;> simp_all [Block.same]

/-! ## SET ELEMENT MODE (R69 to R71, R107) -/

theorem abandon_of_movement {s : State} {a : Nat} {r : ElementRecord} {k : Movement} (hr : s.element a = some r)
    (hk : r.movement = some k) :
    s.abandon a = (s.note s.capture (.movement (k.entry a .abandoned none none))).setMovement a none := by
  have hbind : (s.element a).bind (·.movement) = some k := by rw [hr]; exact hk
  simp only [State.abandon, hbind, State.endMovement]
  rw [note_setMovement]

theorem abandon_of_none {s : State} {a : Nat} {r : ElementRecord} (hr : s.element a = some r) (hk : r.movement = none) :
    s.abandon a = s := by
  have hbind : (s.element a).bind (·.movement) = none := by rw [hr]; exact hk
  simp only [State.abandon, hbind]

theorem movement_of_point {r : ElementRecord} {p : PointPart} (hp : r.part = .point p) : r.movement = p.movement := by
  rw [ElementRecord.movement, hp]

theorem withMovement_of_none {r : ElementRecord} (h : r.movement = none) : withMovement r none = r := by
  cases hp : r.part with
  | point p =>
    have hm : p.movement = none := (movement_of_point hp).symm.trans h
    rw [withMovement_of_point hp, ← hm, ← hp]
  | signal g => simp only [withMovement, ElementRecord.mapPoint, hp]

/-- An abandoned movement leaves its record, and no other block but the record of its entry (R107). -/
theorem abandon_eq {s : State} {a : Nat} {r : ElementRecord} (hr : s.element a = some r) :
    (s.abandon a).element a = some (withMovement r none) ∧ othersSame s (s.abandon a) a
      ∧ sameBut s (s.abandon a) [.elements, .record] := by
  cases hk : r.movement with
  | none =>
    rw [abandon_of_none hr hk, withMovement_of_none hk]
    exact ⟨hr, fun _ _ => rfl, sameBut_refl s _⟩
  | some k =>
    have hnote : ∀ b, (s.note s.capture (.movement (k.entry a .abandoned none none))).element b = s.element b :=
      fun b => by simp [State.element]
    rw [abandon_of_movement hr hk]
    refine ⟨by rw [element_setMovement, hnote, hr]; rfl, fun b hb => ?_, fun b hb => ?_⟩
    · rw [element_setMovement_ne _ none hb, hnote]
    · cases b <;> simp_all [Block.same, State.setMovement, State.modifyPoint, State.modifyElement]

theorem keepsConfirmation_iff {x y : ElementMode} : keepsConfirmation x y = true ↔ x = .observe ∧ y = .supervise := by
  cases x <;> cases y <;> decide

theorem keepsClearedFor_iff {x y : ElementMode} :
    keepsClearedFor x y = true ↔ (x = .observe ∧ y = .supervise) ∨ (x = .supervise ∧ y = .observe) := by
  cases x <;> cases y <;> decide

theorem changeMode_address (r : ElementRecord) (m : ElementMode) : (r.changeMode m).address = r.address :=
  congrArg Prod.fst (changeMode_tableFields r m)

/-- The part of a record after a change of its mode (R70, R107). -/
def partAfterMode (r : ElementRecord) (m : ElementMode) : ElementPart :=
  match r.part with
  | .point p => .point { p with movement := none }
  | .signal g => .signal
    { g with
      confirmation := if r.mode = .observe ∧ m = .supervise then g.confirmation else none
      clearedFor :=
        if (r.mode = .observe ∧ m = .supervise) ∨ (r.mode = .supervise ∧ m = .observe) then g.clearedFor else none }

/-- A record after a change of its mode, its movement abandoned (R70, R71, R107). -/
theorem changeMode_withMovement (r : ElementRecord) (m : ElementMode) :
    (withMovement r none).changeMode m =
      if m = .ignore then { r with mode := m, part := partAfterMode r m }.toIgnore
      else { r with mode := m, part := partAfterMode r m } := by
  have hmoved : { (withMovement r none).mapSignal (fun g => g.changeMode (withMovement r none).mode m) with mode := m } =
      { r with mode := m, part := partAfterMode r m } := by
    unfold partAfterMode
    cases hp : r.part with
    | point p =>
      rw [withMovement_of_point hp]
      rfl
    | signal g =>
      have hsame : withMovement r none = r := by simp only [withMovement, ElementRecord.mapPoint, hp]
      rw [hsame]
      simp only [ElementRecord.mapSignal, hp, SignalPart.changeMode, keepsConfirmation_iff, keepsClearedFor_iff]
  unfold ElementRecord.changeMode
  dsimp only
  rw [hmoved]

theorem setElementMode_of_same {s : State} {a n : Nat} {r : ElementRecord} (hr : s.element a = some r)
    (hm : elementModeOf n = some r.mode) : s.setElementMode a n = s := by
  simp only [State.setElementMode, hr, hm, if_true]

theorem setElementMode_of_other {s : State} {a n : Nat} {r : ElementRecord} {m : ElementMode} (hr : s.element a = some r)
    (hm : elementModeOf n = some m) (hne : r.mode ≠ m) :
    s.setElementMode a n = (s.abandon a).modifyElement a fun r => r.changeMode m := by
  simp only [State.setElementMode, hr, hm, hne, if_false]

theorem element_setElementMode {s : State} {a n : Nat} {r : ElementRecord} {m : ElementMode} (hr : s.element a = some r)
    (hm : elementModeOf n = some m) (hne : r.mode ≠ m) :
    (s.setElementMode a n).element a = some ((withMovement r none).changeMode m) := by
  obtain ⟨he, -, -⟩ := abandon_eq hr
  rw [setElementMode_of_other hr hm hne, element_modifyElement_same _ a _ fun r => changeMode_address r m, he]
  rfl

theorem setElementMode_keeps {s : State} {a n : Nat} {r : ElementRecord} {m : ElementMode} (hr : s.element a = some r)
    (hm : elementModeOf n = some m) :
    othersSame s (s.setElementMode a n) a ∧ sameBut s (s.setElementMode a n) [.elements, .record] := by
  by_cases hne : r.mode = m
  · rw [setElementMode_of_same hr (hne ▸ hm)]
    exact ⟨fun _ _ => rfl, sameBut_refl s _⟩
  · obtain ⟨-, ho, hb⟩ := abandon_eq hr
    rw [setElementMode_of_other hr hm hne]
    refine ⟨fun b hne => ?_, sameBut_trans hb fun b hb => ?_⟩
    · rw [element_modifyElement_ne _ _ (fun r => changeMode_address r m) hne, ho b hne]
    · cases b <;> simp_all [Block.same, State.modifyElement]

/-! ## WITHDRAW ENTRY (R134, R139) -/

theorem entry_modifyEntry (s : State) (i j : Nat) {f : TimetableEntry → TimetableEntry} (hf : ∀ e, (f e).id = e.id) :
    (s.modifyEntry i f).entry j = (s.entry j).map fun e => if e.id = i then f e else e := by
  unfold State.entry State.modifyEntry
  dsimp only
  rw [List.find?_map]
  have hid : (fun e : TimetableEntry => e.id == j) ∘ (fun e => if e.id = i then f e else e) = fun e => e.id == j := by
    funext e
    by_cases he : e.id = i
    · simp only [Function.comp_apply, if_pos he, hf]
    · simp only [Function.comp_apply, if_neg he]
  rw [hid]

theorem entry_id {s : State} {i : Nat} {e : TimetableEntry} (h : s.entry i = some e) : e.id = i := by
  simpa using List.find?_some h

/-- A withdrawal: the entry's state, and the VERDICT entry, which lies outside the action table (R134, R139). -/
theorem withdraw_eq (s : State) (e : TimetableEntry) (r : WithdrawReason) :
    s.withdraw e r = (s.modifyEntry e.id (fun x => { x with state := .withdrawn })).note s.capture
      (.verdict (e.unmatched .withdrawn (some r) s.time.quality.qualifies)) := rfl

theorem withdrawEntry_of_pending {s : State} {i : Nat} {e : TimetableEntry} (h : s.entry i = some e)
    (hp : e.state = .pending) : s.withdrawEntry i = s.withdraw e .requested := by
  simp only [State.withdrawEntry, h, hp, if_true]

theorem withdrawEntry_of_other {s : State} {i : Nat} {e : TimetableEntry} (h : s.entry i = some e)
    (hp : e.state ≠ .pending) : s.withdrawEntry i = s := by
  simp only [State.withdrawEntry, h, hp, if_false]

theorem entry_withdraw {s : State} {i : Nat} {e : TimetableEntry} (h : s.entry i = some e) (r : WithdrawReason) (j : Nat) :
    (s.withdraw e r).entry j = if j = i then some { e with state := .withdrawn } else s.entry j := by
  have hentry : (s.withdraw e r).entry j = (s.modifyEntry e.id (fun x => { x with state := .withdrawn })).entry j := by
    rw [withdraw_eq]
    simp [State.entry]
  rw [hentry, entry_modifyEntry s e.id j (f := fun x => { x with state := .withdrawn }) fun _ => rfl]
  split
  · next hj => rw [hj, h, Option.map_some, if_pos rfl]
  · next hj =>
    cases hs : s.entry j with
    | none => rfl
    | some x => rw [Option.map_some, if_neg fun hi => hj ((entry_id hs).symm.trans (hi.trans (entry_id h)))]

theorem withdraw_sameBut (s : State) (e : TimetableEntry) (r : WithdrawReason) :
    sameBut s (s.withdraw e r) [.checker, .record] := by
  rw [withdraw_eq]
  refine sameBut_trans (t := s.modifyEntry e.id (fun x => { x with state := .withdrawn })) (fun b hb => ?_)
    (sameBut_mono (note_sameBut _ _ _ _) (by decide))
  cases b <;> simp_all [Block.same, State.modifyEntry]

/-! ## ACKNOWLEDGE RECORD (R151, R156) -/

theorem holds_iff {r : EventRecord} {n : Word32} : r.holds n = true ↔ ∃ e ∈ r.entries, e.sequence = n := by
  simp [EventRecord.holds]

/-- What is left once the entries through the first of a number are removed. -/
theorem entriesAfter_append {n : Word32} {u kept : List Entry} {e : Entry} (hu : ∀ x ∈ u, x.sequence ≠ n)
    (he : e.sequence = n) : entriesAfter n (u ++ [e] ++ kept) = kept := by
  induction u with
  | nil => simp [entriesAfter, he]
  | cons x u ih =>
    rw [List.forall_mem_cons] at hu
    simpa [entriesAfter, hu.1] using ih hu.2

theorem removeThrough_of_held {s : State} {n : Word32} {u kept : List Entry} {e : Entry}
    (hs : s.record.entries = u ++ [e] ++ kept) (hu : ∀ x ∈ u, x.sequence ≠ n) (he : e.sequence = n) :
    s.removeThrough n = { s with record := { s.record with entries := kept } } := by
  have hheld : s.record.holds n = true := holds_iff.mpr ⟨e, by simp [hs], he⟩
  rw [State.removeThrough, if_pos hheld, hs, entriesAfter_append hu he]

theorem removeThrough_of_gone {s : State} {n : Word32} (h : ∀ x ∈ s.record.entries, x.sequence ≠ n) :
    s.removeThrough n = s := by
  rw [State.removeThrough, if_neg fun hheld => ?_]
  obtain ⟨e, he, hn⟩ := holds_iff.mp hheld
  exact h e he hn

/-- The GAP rule of a full record, or without a tally, writes nothing (R151). -/
theorem gapRule_of_idle {s : State} (h : s.record.tally = none ∨ Config.maxRecord ≤ s.record.entries.length) :
    s.gapRule = s := by
  unfold State.gapRule
  split
  · next hroom =>
    obtain h | h := h
    · simp only [State.writeGap, h]
    · exact absurd hroom (Nat.not_lt.mpr h)
  · rfl

/-- The GAP rule writes the entry of an open tally where there is room (R151). -/
theorem gapRule_of_tally {s : State} {k : Tally} (h : s.record.tally = some k)
    (hroom : s.record.entries.length < Config.maxRecord) :
    ∃ e, s.gapRule = { s with record :=
        { entries := s.record.entries ++ [e], next := s.record.next + 1, last := some e.stamp, tally := none } }
      ∧ e.sequence = s.record.next ∧ e.body = .gap k ∧ e.alarm = true ∧ e.action = none ∧ e.latch = false
      ∧ e.test = false := by
  have hwrite : s.gapRule = s.writeGap := if_pos hroom
  rw [hwrite]
  simp only [State.writeGap, h]
  exact ⟨_, rfl, rfl, rfl, rfl, rfl, rfl, rfl⟩

/-! ## ACKNOWLEDGE ALARM (R160, R161, R173) -/

/-- The target that the parameters of an ACKNOWLEDGE ALARM name. -/
theorem latchTargetOf_element {a : Nat} (h : 1 ≤ a ∧ a ≤ 0xEFFF) : latchTargetOf 1 a = some (.element a) := by
  simp [latchTargetOf, isElementAddress_iff.mpr h]

theorem release_of_latchedOff {x : Line} (h : x.state = .latchedOff) :
    x.release = { x with shortCount := 0, state := if x.enable then .running else .hold } := by
  simp only [Line.release, h]

theorem release_of_other {x : Line} (h : x.state ≠ .latchedOff) : x.release = x := by
  unfold Line.release
  split
  · next hs => exact absurd hs h
  · rfl

theorem setLine_line (s : State) (l : LineId) : s.setLine l (s.line l) = s := by
  cases l <;> rfl

theorem clearLatch_of_none {s : State} {g : LatchTarget} (h : s.latchOf g = none) : s.clearLatch g = s := by
  simp only [State.clearLatch, h]

theorem clearLatch_of_some {s : State} {g : LatchTarget} {f : Latched} (h : s.latchOf g = some f) :
    s.clearLatch g = ((s.setLatch g none).evalAlarm).note s.capture (.stateAlarmAck g f) := by
  simp only [State.clearLatch, h]

theorem latchOf_setLatch_same (s : State) (g : LatchTarget) : (s.setLatch g none).latchOf g = none := by
  cases g with
  | element a =>
    have he : (s.setLatch (.element a) none).element a = (s.element a).map fun r => { r with latched := none } :=
      element_modifyElement_same s a _ fun _ => rfl
    simp only [State.latchOf, he]
    cases s.element a <;> rfl
  | time => rfl
  | line l => cases l <;> rfl
  | port p => cases p <;> rfl

theorem latchOf_setLatch_ne (s : State) {g h : LatchTarget} (hne : h ≠ g) (x : Option Latched) :
    (s.setLatch g x).latchOf h = s.latchOf h := by
  cases h with
  | element b =>
    have he := element_setLatch_ne s g x b (Ne.symm hne)
    simp only [State.latchOf, he]
  | time =>
    cases g with
    | time => exact absurd rfl hne
    | element a => rfl
    | line l => cases l <;> rfl
    | port p => cases p <;> rfl
  | line k =>
    cases g with
    | line l =>
      have hkl : k ≠ l := fun e => hne (congrArg _ e)
      cases k <;> cases l <;> simp_all [State.setLatch, State.latchOf]
    | element a => cases k <;> rfl
    | time => cases k <;> rfl
    | port p => cases k <;> cases p <;> rfl
  | port q =>
    cases g with
    | port p =>
      have hqp : q ≠ p := fun e => hne (congrArg _ e)
      cases q <;> cases p <;> simp_all [State.setLatch, State.latchOf]
    | element a => cases q <;> rfl
    | time => cases q <;> rfl
    | line l => cases q <;> cases l <;> rfl

theorem latchOf_of_eq {s t : State} (he : t.elements = s.elements) (ha : t.alarms = s.alarms) (g : LatchTarget) :
    t.latchOf g = s.latchOf g := by
  cases g with
  | element a => simp only [State.latchOf, State.element, he]
  | time => simp only [State.latchOf, ha]
  | line l => cases l <;> simp only [State.latchOf, ha]
  | port p => cases p <;> simp only [State.latchOf, ha]

theorem latchOf_evalAlarm (s : State) (g : LatchTarget) : s.evalAlarm.latchOf g = s.latchOf g := by
  cases g with
  | element a => rfl
  | time => rfl
  | line l => cases l <;> rfl
  | port p => cases p <;> rfl

theorem anyLatch_of_eq {s t : State} (he : t.elements = s.elements) (ha : t.alarms = s.alarms) :
    t.anyLatch = s.anyLatch := by
  unfold State.anyLatch
  rw [he, ha]

theorem acknowledgeAlarm_of_target {s : State} {x y : Nat} {g : LatchTarget} (h : latchTargetOf x y = some g) :
    s.acknowledgeAlarm x y = (s.clearLatch g).releaseTarget g := by
  simp only [State.acknowledgeAlarm, h]

theorem releaseTarget_of_other {s : State} {g : LatchTarget} (h : ∀ l, g = .line l → (s.line l).state ≠ .latchedOff) :
    s.releaseTarget g = s := by
  cases g with
  | line l =>
    have hrelease := release_of_other (h l rfl)
    simp only [State.releaseTarget, State.modifyLine, hrelease, setLine_line]
  | _ => rfl

/-- A release leaves every block but the lines (R173). -/
theorem releaseTarget_sameBut (s : State) (g : LatchTarget) : sameBut s (s.releaseTarget g) [.line1, .line2] := by
  cases g with
  | line l =>
    intro b hb
    cases b <;> simp_all [Block.same, State.releaseTarget]
  | _ => exact sameBut_refl s _

theorem line_releaseTarget_same (s : State) (l : LineId) : (s.releaseTarget (.line l)).line l = (s.line l).release :=
  line_setLine_same s l _

theorem line_releaseTarget_ne (s : State) {l k : LineId} (h : k ≠ l) : (s.releaseTarget (.line l)).line k = s.line k :=
  line_setLine_ne s _ h

/-- A cleared latch: its ALARM_ACK entry, and the output that follows the latches left (R160, R161). -/
theorem clearLatch_eq {s : State} {g : LatchTarget} {f : Latched} (h : s.latchOf g = some f) :
    (s.clearLatch g).latchOf g = none ∧ (∀ k, k ≠ g → (s.clearLatch g).latchOf k = s.latchOf k)
      ∧ (s.clearLatch g).alarms.output = (s.clearLatch g).anyLatch ∧ noted s (s.clearLatch g) (.stateAlarmAck g f) false
      ∧ sameElements s (s.clearLatch g) ∧ sameBut s (s.clearLatch g) [.elements, .record, .alarms] := by
  rw [clearLatch_of_some h]
  have he : ((s.setLatch g none).evalAlarm.note s.capture (.stateAlarmAck g f)).elements = (s.setLatch g none).elements := by
    simp [State.evalAlarm]
  have ha : ((s.setLatch g none).evalAlarm.note s.capture (.stateAlarmAck g f)).alarms = (s.setLatch g none).evalAlarm.alarms := by
    simp
  have hlatch : ∀ k, ((s.setLatch g none).evalAlarm.note s.capture (.stateAlarmAck g f)).latchOf k = (s.setLatch g none).latchOf k :=
    fun k => (latchOf_of_eq (s := (s.setLatch g none).evalAlarm) he ha k).trans (latchOf_evalAlarm _ k)
  refine ⟨(hlatch g).trans (latchOf_setLatch_same s g), fun k hk => (hlatch k).trans (latchOf_setLatch_ne s hk none), ?_, ?_,
    sameElements_trans (setLatch_sameElements s g none) (sameElements_of_eq he), fun b hb => ?_⟩
  · rw [ha, anyLatch_of_eq (s := (s.setLatch g none).evalAlarm) he ha]
    rfl
  · exact record_note_of_eq (by simp [State.evalAlarm]) (by simp [State.evalAlarm]) _ _ _
  · cases b <;> simp_all [Block.same, State.evalAlarm]

end Sys2Proof.Laws
end

namespace Sys2Proof.Proofs

open Sys2Proof Sys2Proof.Machine Sys2Proof.Laws

/-- Settles O50: each request by the equations of its effect, and of the tables it leaves. -/
theorem tableRequestsTakeEffectAtCommit : Obligations.TableRequestsTakeEffectAtCommit := by
  intro s hs names
  have hnames : ∀ x y g, names x y g → latchTargetOf x y = some g ∧ s.targetHeld g = true := by
    intro x y g h
    cases g with
    | element a =>
      obtain ⟨rfl, rfl, h1, h2, hheld⟩ := h
      exact ⟨latchTargetOf_element ⟨h1, h2⟩, Option.isSome_iff_ne_none.mpr hheld⟩
    | time => obtain rfl := h; exact ⟨rfl, rfl⟩
    | line l => cases l <;> (obtain rfl := h; exact ⟨rfl, rfl⟩)
    | port p => cases p <;> (obtain rfl := h; exact ⟨rfl, rfl⟩)
  have hack : ∀ x y g, names x y g → s.applyRequest (.acknowledgeAlarm x y) = (s.clearLatch g).releaseTarget g := by
    intro x y g h
    obtain ⟨htarget, hheld⟩ := hnames x y g h
    rw [applyRequest_of_granted, State.effect, acknowledgeAlarm_of_target htarget]
    simp [State.judge, State.judgeAcknowledgeAlarm, htarget, hheld, Result.granted]
  refine ⟨fun p k m b hk hm hb hg => ?_, fun a r hc hr h0 => ?_, fun a r m hr h1 h2 => ?_, fun p x k hx hk hg => ?_,
    fun i e he => ?_, fun i e y judged since he => ?_, fun p hp => ?_, fun n removed kept hentries hcut => ?_,
    fun x y g hg hnone => ?_, fun x y g f hg hf => ?_⟩
  · have hgranted := granted_iff.mpr hg
    obtain ⟨-, k', m', f, hargs, -, -⟩ := judgeLoad_granted hgranted
    obtain ⟨hk', hm', -, -, -⟩ := loadArguments_eq_some.mp hargs
    obtain rfl := Option.some.inj ((elementKindOf_eq_some_iff.mpr hk).symm.trans hk')
    obtain rfl := Option.some.inj ((elementModeOf_eq_some_iff.mpr hm).symm.trans hm')
    have hflag : decide (p.timetablePoint = 1) = b := by simp [← hb]
    intro t limit part
    have ht : t = s.loadElement p := applyRequest_of_granted hgranted
    refine ⟨?_, fun c hc => ?_, ht ▸ loadElement_sameBut s p⟩
    · rw [ht, element_loadElement hargs, if_pos rfl]
      cases k with
      | signal => simp only [loadedRecord, loadedPart, hflag]; rfl
      | point => rfl
    · rw [ht, element_loadElement hargs, if_neg (Ne.symm hc)]
  · have hrange := hs.2.1 r (element_mem hr)
    rw [element_address hr] at hrange
    have ht : s.applyRequest (.unloadElement a) = s.unloadElement a := by
      refine applyRequest_of_granted ?_
      simp [State.judge, State.judgeUnload, hc, isElementAddress_iff.mpr hrange, hr, h0, Result.granted]
    dsimp only
    rw [ht]
    refine ⟨by rw [element_unloadElement, if_pos rfl], fun b hb => ?_, unloadElement_sameBut s a⟩
    rw [element_unloadElement, if_neg hb]
  · have hm := elementModeOf_eq_some_iff.mpr (Eq.refl (placeIn [.ignore, .observe, .supervise, .test] m))
    intro t
    have ht : t = s.setElementMode a (placeIn [.ignore, .observe, .supervise, .test] m) := by
      refine applyRequest_of_granted ?_
      simp [State.judge, State.judgeMode, isElementAddress_iff.mpr ⟨h1, h2⟩, hm, hr, Result.granted]
    rw [ht]
    refine ⟨fun hsame => setElementMode_of_same hr (hsame ▸ hm), fun hne => ?_, setElementMode_keeps hr hm⟩
    intro part stale
    have hpart : part = partAfterMode r m := rfl
    rw [hpart, element_setElementMode hr hm hne, changeMode_withMovement]
    refine ⟨fun hm => by rw [if_neg hm], fun hm => by rw [if_pos hm]; rfl, fun k hk => ?_, fun hk => ?_⟩
    · rw [setElementMode_of_other hr hm hne, abandon_of_movement hr hk]
      rfl
    · rw [setElementMode_of_other hr hm hne, abandon_of_none hr hk]
      rfl
  · have hgranted := granted_iff.mpr hg
    obtain ⟨x', k', hargs, -, -⟩ := judgeLoadEntry_granted hgranted
    obtain ⟨hx', hk', -⟩ := entryArguments_eq_some.mp hargs
    obtain rfl := Option.some.inj ((periodOf_eq_some_iff.mpr hx).symm.trans hx')
    obtain rfl := Option.some.inj ((checkOf_eq_some_iff.mpr hk).symm.trans hk')
    intro t
    have ht : t = s.loadEntry p := applyRequest_of_granted hgranted
    rw [ht]
    refine ⟨by rw [entry_loadEntry hargs, if_pos rfl]; rfl, fun i hi => ?_, loadEntry_sameBut hargs⟩
    rw [entry_loadEntry hargs, if_neg (Ne.symm hi)]
  · have ht : s.applyRequest (.withdrawEntry i) = s.withdrawEntry i := by
      refine applyRequest_of_granted ?_
      simp [State.judge, State.judgeWithdraw, he, Result.granted]
    dsimp only
    rw [ht]
    by_cases hp : e.state = .pending
    · rw [withdrawEntry_of_pending he hp]
      refine ⟨fun _ => ⟨by rw [entry_withdraw he, if_pos rfl], ?_⟩, fun hne => absurd hp hne, fun j hj => ?_,
        withdraw_sameBut s e _⟩
      · rw [withdraw_eq, ← entry_id he]
        exact record_note_of_eq (s := s) (t := s.modifyEntry e.id _) rfl rfl s.capture _ false
      · rw [entry_withdraw he, if_neg hj]
    · rw [withdrawEntry_of_other he hp]
      exact ⟨fun h => absurd h hp, fun _ => rfl, fun _ _ => rfl, sameBut_refl s _⟩
  · have hentry : State.entry { s with service := { s.service with error := none } } i = some e := he
    intro t u
    have ht : t = if u.namesAnother (.withdrawEntry i) judged since = false then u.applyRequest (.withdrawEntry i) else u :=
      if_congr (and_iff_right rfl) rfl rfl
    have hnames : u.namesAnother (.withdrawEntry i) judged since =
        (decide (judged ≤ e.serial) && decide (e.serial < since)) := by
      simp only [State.namesAnother, u, hentry, Option.any_some]
    rw [ht, hnames]
    refine ⟨fun h1 h2 => if_neg (by simp [h1, h2]), fun h => if_pos ?_⟩
    obtain h | h := h
    · simp [Nat.not_le.mpr h]
    · simp [Nat.not_lt.mpr h]
  · have hcode := periodOf_eq_some_iff.mpr (Eq.refl (placeIn [.a, .b] p))
    have ht : s.applyRequest (.erasePeriod (placeIn [.a, .b] p)) = s.erasePeriod (placeIn [.a, .b] p) := by
      refine applyRequest_of_granted ?_
      simp [State.judge, State.judgeErase, hcode, hp, Result.granted]
    dsimp only
    rw [ht]
    refine ⟨?_, ?_, ?_, erasePeriod_sameBut hcode⟩
    · rw [erasePeriod_of_code hcode]
    · rw [erasePeriod_of_code hcode, ← hp]
      cases p <;> rfl
    · rw [erasePeriod_of_code hcode]
  · have hremoved : s.removeThrough n = { s with record := { s.record with entries := kept } } := by
      obtain ⟨u, e, rfl, he, hu⟩ | ⟨rfl, hgone⟩ := hcut
      · exact removeThrough_of_held hentries hu he
      · rw [List.nil_append] at hentries
        rw [removeThrough_of_gone (hentries ▸ hgone), ← hentries]
    dsimp only
    rw [applyRequest_acknowledgeRecord, State.acknowledgeRecord, hremoved]
    refine ⟨fun h => ?_, fun k hk hroom => ?_, fun b hb => ?_⟩
    · rw [gapRule_of_idle (s := { s with record := { s.record with entries := kept } }) h]
    · obtain ⟨e, he, hfields⟩ := gapRule_of_tally (s := { s with record := { s.record with entries := kept } }) hk hroom
      exact ⟨e, by rw [he], hfields⟩
    · cases b <;> simp_all [Block.same]
  · dsimp only
    rw [hack x y g hg, clearLatch_of_none hnone]
    refine ⟨?_, releaseTarget_of_other⟩
    rintro l rfl hl
    exact ⟨(line_releaseTarget_same s l).trans (release_of_latchedOff hl), fun k hk => line_releaseTarget_ne s hk,
      releaseTarget_sameBut s _⟩
  · obtain ⟨hsame, hother, hout, hnoted, helements, hbut⟩ := clearLatch_eq hf
    dsimp only
    rw [hack x y g hg]
    have hrelease := releaseTarget_sameBut (s.clearLatch g) g
    have he := hrelease .elements (by decide)
    have ha := hrelease .alarms (by decide)
    refine ⟨(latchOf_of_eq he ha g).trans hsame, fun k hk => (latchOf_of_eq he ha k).trans (hother k hk), ?_, ?_,
      sameElements_trans helements (sameElements_of_eq he), ?_,
      sameBut_trans (sameBut_mono hbut (by decide)) (sameBut_mono hrelease (by decide))⟩
    · rw [anyLatch_of_eq he ha]
      exact (congrArg AlarmUnit.output ha).trans hout
    · exact (hrelease .record (by decide)).trans hnoted
    · rintro l rfl hl
      have hline : (s.clearLatch (.line l)).line l = s.line l := by
        cases l
        · exact hbut .line1 (by decide)
        · exact hbut .line2 (by decide)
      rw [line_releaseTarget_same, hline, release_of_latchedOff hl]
      exact ⟨rfl, rfl⟩

end Sys2Proof.Proofs

section
/-! SUPPORT. The judgement of the requests on the tables, condition by condition. -/

namespace Sys2Proof.Laws

open Sys2Proof Sys2Proof.Machine

/-! ## Codes and ranges (R62, R189, R191) -/

/-- A given value is clamped where it lies outside its range. -/
theorem givenClamped_iff {v : Option Nat} {lo hi : Nat} (h : lo ≤ hi) :
    givenClamped v lo hi = true ↔ ∃ n, v = some n ∧ (n < lo ∨ hi < n) := by
  cases v with
  | none => simp [givenClamped]
  | some n =>
    have hclamp : clampNat n lo hi ≠ n ↔ n < lo ∨ hi < n := by
      unfold clampNat
      omega
    simp only [givenClamped, decide_eq_true_eq, hclamp, Option.some.injEq, exists_eq_left']

theorem elementKindOf_isSome_iff {n : Nat} : (elementKindOf n).isSome = true ↔ n = 1 ∨ n = 2 := by
  simp only [Option.isSome_iff_exists, elementKindOf_eq_some_iff]
  constructor
  · rintro ⟨k, rfl⟩
    cases k <;> decide
  · rintro (rfl | rfl)
    · exact ⟨.signal, rfl⟩
    · exact ⟨.point, rfl⟩

theorem elementModeOf_isSome_iff {n : Nat} : (elementModeOf n).isSome = true ↔ 1 ≤ n ∧ n ≤ 4 := by
  simp only [Option.isSome_iff_exists, elementModeOf_eq_some_iff]
  constructor
  · rintro ⟨m, rfl⟩
    cases m <;> decide
  · rintro ⟨h1, h4⟩
    obtain rfl | rfl | rfl | rfl : n = 1 ∨ n = 2 ∨ n = 3 ∨ n = 4 := by omega
    · exact ⟨.ignore, rfl⟩
    · exact ⟨.observe, rfl⟩
    · exact ⟨.supervise, rfl⟩
    · exact ⟨.test, rfl⟩

theorem flagOf_isSome_iff {n : Nat} : (flagOf n).isSome = true ↔ n ≤ 1 := by
  simp only [Option.isSome_iff_exists, flagOf_eq_some]
  constructor
  · rintro ⟨b, ⟨rfl, -⟩ | ⟨rfl, -⟩⟩ <;> decide
  · intro h
    obtain rfl | rfl : n = 0 ∨ n = 1 := by omega
    · exact ⟨false, .inl ⟨rfl, rfl⟩⟩
    · exact ⟨true, .inr ⟨rfl, rfl⟩⟩

/-- A code numbered from 1 to 2 is one of two. -/
theorem one_or_two {n : Nat} (h : ¬ (n < 1 ∨ 2 < n)) : n = 1 ∨ n = 2 := by omega

theorem periodOf_of_range {n : Nat} (h : ¬ (n < 1 ∨ 2 < n)) : periodOf n = some (if n = 1 then .a else .b) := by
  obtain rfl | rfl := one_or_two h
  · rfl
  · rfl

theorem periodOf_of_outside {n : Nat} (h : n < 1 ∨ 2 < n) : periodOf n = none :=
  Option.eq_none_iff_forall_ne_some.mpr fun p hp => by
    have hn := periodOf_eq_some_iff.mp hp
    have hplace : placeIn [Period.a, .b] p = 1 ∨ placeIn [Period.a, .b] p = 2 := by cases p <;> decide
    omega

theorem checkOf_isSome_iff {n : Nat} : (checkOf n).isSome = true ↔ 1 ≤ n ∧ n ≤ 2 := by
  simp only [Option.isSome_iff_exists, checkOf_eq_some_iff]
  constructor
  · rintro ⟨k, rfl⟩
    cases k <;> decide
  · rintro ⟨h1, h2⟩
    obtain rfl | rfl : n = 1 ∨ n = 2 := by omega
    · exact ⟨.cleared, rfl⟩
    · exact ⟨.passed, rfl⟩

theorem searchOf_eq_some_iff {n : Nat} {k : Search} : searchOf n = some k ↔ n = placeIn [.exact, .following] k := by
  constructor
  · unfold searchOf
    split <;> intro h <;> cases h <;> rfl
  · rintro rfl
    cases k <;> rfl

theorem searchOf_of_outside {n : Nat} (h : n < 1 ∨ 2 < n) : searchOf n = none :=
  Option.eq_none_iff_forall_ne_some.mpr fun k hk => by
    have hn := searchOf_eq_some_iff.mp hk
    have hplace : placeIn [Search.exact, .following] k = 1 ∨ placeIn [Search.exact, .following] k = 2 := by
      cases k <;> decide
    omega

theorem isElementAddress_eq_false_iff {a : Nat} : isElementAddress a = false ↔ ¬ (1 ≤ a ∧ a ≤ 0xEFFF) := by
  rw [← isElementAddress_iff, Bool.not_eq_true]

/-! ## LOAD ELEMENT and SET ELEMENT MODE (R65, R67, R69) -/

/-- A load is acceptable where each field is in its set and no point is a timetable point (R65; log 24, log 46). -/
theorem loadArguments_isSome_iff {p : LoadElementParams} :
    (loadArguments p).isSome = true ↔
      (1 ≤ p.address ∧ p.address ≤ 0xEFFF) ∧ (p.kind = 1 ∨ p.kind = 2) ∧ 1 ≤ p.mode ∧ p.mode ≤ 4 ∧ p.timetablePoint ≤ 1
        ∧ ¬ (p.kind = 2 ∧ p.timetablePoint = 1) := by
  have hboth : ∀ {k f}, elementKindOf p.kind = some k → flagOf p.timetablePoint = some f →
      ((f = true ∧ k = .point) ↔ (p.kind = 2 ∧ p.timetablePoint = 1)) := by
    intro k f hk hf
    have hkind := elementKindOf_eq_some_iff.mp hk
    have hflag := flagOf_eq_some.mp hf
    cases k <;> cases f <;> simp_all [placeIn]
  rw [Option.isSome_iff_exists]
  constructor
  · rintro ⟨⟨k, m, f⟩, hargs⟩
    obtain ⟨hk, hm, hf, ha, hp⟩ := loadArguments_eq_some.mp hargs
    obtain ⟨h1, h4⟩ := elementModeOf_isSome_iff.mp (Option.isSome_of_eq_some hm)
    exact ⟨isElementAddress_iff.mp ha, elementKindOf_isSome_iff.mp (Option.isSome_of_eq_some hk), h1, h4,
      flagOf_isSome_iff.mp (Option.isSome_of_eq_some hf), (hboth hk hf).not.mp hp⟩
  · rintro ⟨ha, hkind, h1, h4, hflag, hp⟩
    obtain ⟨k, hk⟩ := Option.isSome_iff_exists.mp (elementKindOf_isSome_iff.mpr hkind)
    obtain ⟨m, hm⟩ := Option.isSome_iff_exists.mp (elementModeOf_isSome_iff.mpr ⟨h1, h4⟩)
    obtain ⟨f, hf⟩ := Option.isSome_iff_exists.mp (flagOf_isSome_iff.mpr hflag)
    exact ⟨(k, m, f), loadArguments_eq_some.mpr ⟨hk, hm, hf, isElementAddress_iff.mpr ha, (hboth hk hf).not.mpr hp⟩⟩

/-- The loads of which a limit of the record's kind is clamped (R62). -/
theorem loadClamped_iff {k : ElementKind} {p : LoadElementParams} {outside : Option Nat → Nat → Nat → Prop}
    (h : ∀ v lo hi, outside v lo hi ↔ ∃ n, v = some n ∧ (n < lo ∨ hi < n)) :
    loadClamped k p = true ↔
      outside p.silence 100 10000 ∨ (k = .signal ∧ outside p.confirm 100 5000)
        ∨ (k = .point ∧ (outside p.start 100 5000 ∨ outside p.run 1 30 ∨ outside p.settle 20 500
            ∨ outside p.bounces 0 15 ∨ outside p.warning 500 30000)) := by
  have hiff : ∀ {v lo hi}, lo ≤ hi → (givenClamped v lo hi = true ↔ outside v lo hi) := fun hle =>
    (givenClamped_iff hle).trans (h _ _ _).symm
  have hrange : (100 ≤ 10000 ∧ 100 ≤ 5000 ∧ 1 ≤ 30) ∧ 20 ≤ 500 ∧ 0 ≤ 15 ∧ 500 ≤ 30000 := by decide
  obtain ⟨⟨h1, h2, h3⟩, h4, h5, h6⟩ := hrange
  cases k <;> simp [loadClamped, hiff h1, hiff h2, hiff h3, hiff h4, hiff h5, hiff h6, or_assoc]

theorem keepsReferenced_iff {r : ElementRecord} {k : ElementKind} {b : Bool} :
    keepsReferenced r k b = true ↔ r.references = 0 ∨ (r.kind = k ∧ b = true) := by
  simp [keepsReferenced]

/-- A load of acceptable arguments in CONFIG, by what is held at its address (R65). -/
theorem judgeLoad_of_arguments {s : State} {p : LoadElementParams} {k : ElementKind} {m : ElementMode} {b : Bool}
    (hs : s.service.state = .config) (h : loadArguments p = some (k, m, b)) :
    s.judgeLoad p =
      match s.element p.address with
      | none =>
        if Config.maxElements ≤ s.elements.length then .full
        else if loadClamped k p then .doneClamped else .done
      | some r =>
        if keepsReferenced r k b then (if loadClamped k p then .doneClamped else .done) else .referenced := by
  simp only [State.judgeLoad, hs, h, reduceCtorEq, if_false] <;> rfl

/-! ## LOAD ENTRY (R132) -/

/-- A load of an entry is refused at its arguments where a field lies outside its set (R132, case 1). -/
theorem entryArguments_of_refused {p : LoadEntryParams}
    (h : p.period < 1 ∨ 2 < p.period ∨ tagValid p.train = false ∨ ¬ (1 ≤ p.element ∧ p.element ≤ 0xEFFF) ∨ p.check < 1
      ∨ 2 < p.check ∨ 86400 ≤ p.scheduled.second) : entryArguments p = none := by
  refine Option.eq_none_iff_forall_ne_some.mpr fun ⟨t, c⟩ hargs => ?_
  obtain ⟨ht, hc, hvalid, ha, hday⟩ := entryArguments_eq_some.mp hargs
  have hperiod : ¬ (p.period < 1 ∨ 2 < p.period) := fun hp => by simp [periodOf_of_outside hp] at ht
  have hcheck := checkOf_isSome_iff.mp (Option.isSome_of_eq_some hc)
  rw [isElementAddress_iff] at ha
  obtain h | h | h | h | h | h | h := h
  · exact hperiod (.inl h)
  · exact hperiod (.inr h)
  · simp [h] at hvalid
  · exact h ha
  · omega
  · omega
  · omega

theorem entryArguments_of_accepted {p : LoadEntryParams}
    (h : ¬ (p.period < 1 ∨ 2 < p.period ∨ tagValid p.train = false ∨ ¬ (1 ≤ p.element ∧ p.element ≤ 0xEFFF) ∨ p.check < 1
      ∨ 2 < p.check ∨ 86400 ≤ p.scheduled.second)) :
    ∃ c, entryArguments p = some (if p.period = 1 then .a else .b, c) := by
  simp only [not_or, Bool.not_eq_false, not_not] at h
  obtain ⟨h1, h2, hvalid, ha, h3, h4, hday⟩ := h
  obtain ⟨c, hc⟩ := Option.isSome_iff_exists.mp (checkOf_isSome_iff.mpr ⟨Nat.le_of_not_lt h3, Nat.le_of_not_lt h4⟩)
  exact ⟨c, entryArguments_eq_some.mpr ⟨periodOf_of_range (by omega), hc, hvalid, isElementAddress_iff.mpr ha, by omega⟩⟩

theorem tagValid_eq_false_iff {t : TrainTag} {valid : Byte → Prop} (h : ∀ b, isTagOctet b = true ↔ valid b) :
    tagValid t = false ↔ ¬ valid t.c0 ∨ ¬ valid t.c1 ∨ ¬ valid t.c2 ∨ ¬ valid t.c3 := by
  rw [← Bool.not_eq_true]
  simp only [tagValid, Bool.and_eq_true, h]
  tauto

/-- An entry of the id is held that the load does not replace: it or the load has a tag out of STANDBY (R132, case 6). -/
theorem idInUse_iff {s : State} {e : TimetableEntry} :
    ((s.entry e.id).isSome = true ∧ s.replaces e = false) ↔
      (s.entry e.id).any (fun h => decide (s.tag h.period ≠ .standby ∨ s.tag e.period ≠ .standby)) = true := by
  unfold State.replaces
  cases s.entry e.id with
  | none => simp
  | some h => simp [imp_iff_not_or]

theorem isTimetablePoint_eq_any (s : State) (a : Nat) :
    s.isTimetablePoint a = (s.signalPart a).any fun g => g.timetablePoint := by
  unfold State.isTimetablePoint
  cases s.signalPart a <;> rfl

theorem entryClamped_iff {p : LoadEntryParams} :
    entryClamped p = true ↔ 3600 < p.early ∨ 3600 < p.late ∨ 7200 < p.severe := by
  simp [entryClamped, or_assoc]

/-! ## ACKNOWLEDGE RECORD and ACKNOWLEDGE ALARM (R156, R160) -/

theorem isBehind_iff {x y : Word32} : isBehind x y = true ↔ 1 ≤ (y - x).toNat ∧ (y - x).toNat ≤ 2147483648 := by
  simp [isBehind]

/-- An ACKNOWLEDGE ALARM names a target by a code from 1 to 6, and an element besides by its address (R160, R191). -/
theorem latchTargetOf_of_refused {k a : Nat} (h : k < 1 ∨ 6 < k ∨ (k = 1 ∧ ¬ (1 ≤ a ∧ a ≤ 0xEFFF))) :
    latchTargetOf k a = none := by
  unfold latchTargetOf
  split
  · have ha : isElementAddress a = false := isElementAddress_eq_false_iff.mpr (by omega)
    rw [ha]
    rfl
  · omega
  · omega
  · omega
  · omega
  · omega
  · rfl

theorem latchTargetOf_of_other {k a : Nat} (h : ¬ (k < 1 ∨ 6 < k)) (h1 : k ≠ 1) :
    ∃ g, latchTargetOf k a = some g ∧ ∀ s : State, s.targetHeld g = true := by
  obtain rfl | rfl | rfl | rfl | rfl : k = 2 ∨ k = 3 ∨ k = 4 ∨ k = 5 ∨ k = 6 := by omega
  · exact ⟨.time, rfl, fun _ => rfl⟩
  · exact ⟨.line .one, rfl, fun _ => rfl⟩
  · exact ⟨.line .two, rfl, fun _ => rfl⟩
  · exact ⟨.port .a, rfl, fun _ => rfl⟩
  · exact ⟨.port .b, rfl, fun _ => rfl⟩

/-! ## The searches (R73, R136) -/

/-- A search finds by the exact key, or the first from a key on. -/
theorem findElement_isSome_iff {s : State} {a : Nat} :
    ((s.findElement a .exact).isSome = true ↔ (s.element a).isSome = true)
      ∧ ((s.findElement a .following).isSome = true ↔ ∃ r ∈ s.elements, a ≤ r.address) :=
  ⟨Iff.rfl, by simp [State.findElement]⟩

theorem findEntry_isSome_iff {s : State} {i : Nat} :
    ((s.findEntry i .exact).isSome = true ↔ (s.entry i).isSome = true)
      ∧ ((s.findEntry i .following).isSome = true ↔ ∃ e ∈ s.checker.store, i ≤ e.id) :=
  ⟨Iff.rfl, by simp [State.findEntry]⟩

end Sys2Proof.Laws
end

namespace Sys2Proof.Proofs

open Sys2Proof Sys2Proof.Machine Sys2Proof.Laws

/-- Settles O47: each judgement is its rule's conditions, taken in their order. -/
theorem tableRequestsAreJudged : Obligations.TableRequestsAreJudged := by
  intro s isAddress outside
  have hout : ∀ v lo hi, outside v lo hi ↔ ∃ n, v = some n ∧ (n < lo ∨ hi < n) := fun _ _ _ => Iff.rfl
  refine ⟨fun p => ⟨fun hs => ?_, loadArguments_isSome_iff, fun k m b h => ?_, fun hs h => ?_, fun hs k m b h => ?_⟩,
    fun a => congrArg (·, none) ?_, fun a m => congrArg (·, none) ?_, fun p => ?_, fun i => congrArg (·, none) ?_,
    fun n => congrArg (·, none) ?_, fun n => congrArg (·, none) ?_, fun k a => congrArg (·, none) ?_,
    fun a k => congrArg (·, none) ?_, fun i k => congrArg (·, none) ?_⟩
  · simp [State.judge, State.judgeLoad, hs]
  · obtain ⟨hk, hm, hf, -, -⟩ := loadArguments_eq_some.mp h
    refine ⟨elementKindOf_eq_some_iff.mp hk, elementModeOf_eq_some_iff.mp hm, ?_⟩
    obtain ⟨hn, rfl⟩ | ⟨hn, rfl⟩ := flagOf_eq_some.mp hf <;> simp [hn]
  · simp [State.judge, State.judgeLoad, hs, h]
  · have hjudge : s.judge (.loadElement p) = (s.judgeLoad p, none) := rfl
    rw [hjudge, judgeLoad_of_arguments hs h]
    intro clamped granted
    have hgrant : ∀ x : Result, x = (if loadClamped k p then .doneClamped else .done) →
        (clamped → (x, (none : Option Reason)) = (.doneClamped, none)) ∧ (¬ clamped → (x, (none : Option Reason)) = (.done, none)) := by
      rintro x rfl
      exact ⟨fun hc => congrArg (·, none) (if_pos ((loadClamped_iff hout).mpr hc)),
        fun hc => congrArg (·, none) (if_neg ((loadClamped_iff hout).not.mpr hc))⟩
    refine ⟨fun hnone hfull => ?_, fun hnone hroom => hgrant _ ?_, fun r hr => ⟨fun h0 hkeeps => ?_, fun hkeeps => hgrant _ ?_⟩⟩
    · rw [hnone]
      exact congrArg (·, none) (if_pos hfull)
    · rw [hnone]
      exact if_neg (Nat.not_le.mpr hroom)
    · rw [hr]
      refine congrArg (·, none) (if_neg ?_)
      rw [keepsReferenced_iff]
      rintro (hzero | ⟨hkind, hflag⟩)
      · exact absurd hzero (Nat.ne_of_gt h0)
      · simp [hkind, hflag] at hkeeps
    · rw [hr]
      exact if_pos (keepsReferenced_iff.mpr hkeeps)
  · unfold State.judgeUnload
    refine if_congr Iff.rfl rfl (if_congr isElementAddress_eq_false_iff rfl ?_)
    cases s.element a with
    | none => rfl
    | some r => simp
  · have hcode : (elementModeOf m).isNone = true ↔ m < 1 ∨ 4 < m := by
      rw [← Option.not_isSome, Bool.not_eq_true', ← Bool.not_eq_true, elementModeOf_isSome_iff]
      omega
    refine if_congr (or_congr isElementAddress_eq_false_iff hcode) rfl ?_
    cases s.element a <;> rfl
  · intro valid x severe late
    have htag := tagValid_eq_false_iff (t := p.train) (valid := valid) fun _ => isTagOctet_iff
    refine congrArg (·, none) ?_
    unfold State.judgeLoadEntry
    by_cases hrefused : p.period < 1 ∨ 2 < p.period ∨ tagValid p.train = false ∨ ¬ isAddress p.element ∨ p.check < 1
        ∨ 2 < p.check ∨ 86400 ≤ p.scheduled.second
    · rw [entryArguments_of_refused hrefused]
      exact (if_pos (by simpa only [htag, or_assoc] using hrefused)).symm
    · obtain ⟨c, hargs⟩ := entryArguments_of_accepted hrefused
      rw [hargs]
      refine Eq.trans ?_ (if_neg (by simpa only [htag, or_assoc] using hrefused)).symm
      refine if_congr Iff.rfl rfl (if_congr ?_ rfl (if_congr Iff.rfl rfl (if_congr idInUse_iff rfl (if_congr Iff.rfl rfl
        (if_congr (and_congr_left' Option.isNone_iff_eq_none) rfl (if_congr entryClamped_iff rfl rfl))))))
      rw [isTimetablePoint_eq_any]
      rfl
  · unfold State.judgeWithdraw
    cases s.entry i <;> rfl
  · unfold State.judgeErase
    by_cases hn : n < 1 ∨ 2 < n
    · rw [periodOf_of_outside hn, if_pos hn]
    · rw [periodOf_of_range hn, if_neg hn]
  · refine if_congr (or_congr holds_iff ?_) rfl rfl
    exact isBehind_iff
  · unfold State.judgeAcknowledgeAlarm
    by_cases hrefused : k < 1 ∨ 6 < k ∨ (k = 1 ∧ ¬ isAddress a)
    · rw [latchTargetOf_of_refused hrefused, if_pos hrefused]
    · rw [if_neg hrefused]
      by_cases h1 : k = 1
      · subst h1
        have ha : isAddress a := by_contra fun ha => hrefused (.inr (.inr ⟨rfl, ha⟩))
        rw [latchTargetOf_element ha]
        cases hr : s.element a <;> simp [State.targetHeld, hr]
      · obtain ⟨g, hg, hheld⟩ := latchTargetOf_of_other (k := k) (a := a) (by omega) h1
        simp [hg, hheld, h1]
  · unfold State.judgeReadElement
    by_cases hk : k < 1 ∨ 2 < k
    · rw [searchOf_of_outside hk, if_pos (hk.elim .inl (.inr ∘ .inl))]
    · obtain ⟨hexact, hfollowing⟩ := findElement_isSome_iff (s := s) (a := a)
      obtain rfl | rfl := one_or_two hk
      · refine if_congr (by simp) rfl (if_congr ?_ rfl rfl)
        rw [hexact]
        simp
      · refine if_congr (by simp) rfl (if_congr ?_ rfl rfl)
        rw [hfollowing]
        simp
  · unfold State.judgeReadEntry
    by_cases hk : k < 1 ∨ 2 < k
    · rw [searchOf_of_outside hk, if_pos hk]
    · rw [if_neg hk]
      obtain ⟨hexact, hfollowing⟩ := findEntry_isSome_iff (s := s) (i := i)
      obtain rfl | rfl := one_or_two hk
      · refine if_congr ?_ rfl rfl
        rw [hexact]
        simp
      · refine if_congr ?_ rfl rfl
        rw [hfollowing]
        simp

end Sys2Proof.Proofs

section
/-! SUPPORT. The codes as places in their lists, and the lengths of what the part writes. -/

namespace Sys2Proof.Laws

open Sys2Proof Sys2Proof.Machine

/-! ## Codes numbered from 1 in the order of their list (R189, R191, R193) -/

theorem quality_code_eq : Quality.rank = placeIn [.q1, .q2, .q3, .q4] := by
  funext x
  cases x <;> rfl

theorem source_code_eq : sourceCode = placeIn [.ref1, .ref2, .ring] := by
  funext x
  cases x <;> rfl

theorem port_code_eq : portCode = placeIn [.a, .b] := by
  funext x
  cases x <;> rfl

theorem line_code_eq : lineCode = placeIn [.one, .two] := by
  funext x
  cases x <;> rfl

theorem period_code_eq : Period.code = placeIn [.a, .b] := by
  funext x
  cases x <;> rfl

theorem checkKind_code_eq : CheckKind.code = placeIn [.cleared, .passed] := by
  funext x
  cases x <;> rfl

theorem opState_code_eq : OpState.code = placeIn [.config, .run] := by
  funext x
  cases x <;> rfl

theorem loop_code_eq : Loop.code = placeIn [.isOpen, .isClosed] := by
  funext x
  cases x <;> rfl

theorem loopMode_code_eq : LoopMode.code = placeIn [.auto, .autoClose, .alwaysOpen, .alwaysClosed] := by
  funext x
  cases x <;> rfl

theorem lineState_code_eq : LineState.code = placeIn [.hold, .running, .retry, .latchedOff] := by
  funext x
  cases x <;> rfl

theorem polarity_code_eq : Polarity.code = placeIn [.positive, .negative] := by
  funext x
  cases x <;> rfl

theorem elementKind_code_eq : ElementKind.code = placeIn [.signal, .point] := by
  funext x
  cases x <;> rfl

theorem elementMode_code_eq : ElementMode.code = placeIn [.ignore, .observe, .supervise, .test] := by
  funext x
  cases x <;> rfl

theorem target_code_eq : Target.code = placeIn [.normal, .reverse] := by
  funext x
  cases x <;> rfl

theorem lamp_code_eq : Lamp.code = placeIn [.proven, .dark] := by
  funext x
  cases x <;> rfl

theorem telegramKind_code_eq : TelegramKind.code = placeIn [.command, .status] := by
  funext x
  cases x <;> rfl

theorem movementOutcome_code_eq :
    MovementOutcome.code = placeIn [.complete, .failed, .reversed, .abandoned, .noMove] := by
  funext x
  cases x <;> rfl

theorem verdictClass_code_eq :
    VerdictClass.code = placeIn [.early, .onTime, .late, .severe, .unplanned, .missed, .unobserved, .withdrawn] := by
  funext x
  cases x <;> rfl

theorem withdrawReason_code_eq : WithdrawReason.code = placeIn [.requested, .drainEnd, .periodStandby] := by
  funext x
  cases x <;> rfl

theorem selectReason_code_eq : SelectReason.code = placeIn [.qualified, .lost, .revert, .configured] := by
  funext x
  cases x <;> rfl

theorem cause_code_eq : Cause.code = placeIn [.request, .restart] := by
  funext x
  cases x <;> rfl

theorem coverage_code_eq : Coverage.code = placeIn [.never, .observed, .lost] := by
  funext x
  cases x <;> rfl

theorem entryState_code_eq : EntryState.code = placeIn [.pending, .matched, .missed, .unobserved, .withdrawn] := by
  funext x
  cases x <;> rfl

theorem qualification_code_eq : Qualification.code = placeIn [.absent, .qualifying, .qualified, .disqualified] := by
  funext x
  cases x <;> rfl

theorem activity_code_eq : Activity.code = placeIn [.active, .silent] := by
  funext x
  cases x <;> rfl

theorem mode_code_eq : Mode.code = placeIn [.free, .fine, .slew, .holdover] := by
  funext x
  cases x <;> rfl

theorem tagState_code_eq : TagState.code = placeIn [.live, .draining, .standby] := by
  funext x
  cases x <;> rfl

theorem result_code_eq :
    Result.code = placeIn [.done, .doneClamped, .refusedState, .refusedArgument, .full, .notFound, .referenced, .idInUse,
      .tooLate, .notATimetablePoint, .badTolerance, .periodNotLoadable, .superseded] := by
  funext x
  cases x <;> rfl

/-- The phases follow IDLE, which is 1 (log 23). -/
theorem phase_code_eq (x : Phase) : x.code = placeIn [.commanded, .moving, .settling] x + 1 := by
  cases x <;> rfl

/-- The kinds of the action table in the order of R157. -/
def kindList : List ActionKind :=
  [.failedToStart, .failedToDetect, .detectionLost, .uncommandedMove, .aspectNotShown, .qualityQ4, .chatter, .trend,
   .signalDropped, .lampDark, .coverageLost, .severe, .missed, .qualityQ3, .holdover, .lineOpen, .lineShort,
   .portLinkDown, .portSilent, .slowMovement, .early, .onTime, .late, .unobserved, .unplanned, .sourceChange, .jabber]

theorem actionKind_code_eq : ActionKind.code = placeIn kindList := by
  funext x
  cases x <;> rfl

/-! ## Padding and lengths (R191, R193) -/

theorem padTo_eq (n : Nat) (l : List Byte) : padTo n l = (l ++ List.replicate n 0x00).take n := by
  simp only [padTo, List.take_append, List.take_replicate]
  congr 2
  omega

/-- Octets that fit are padded at their end. -/
theorem padTo_of_length {n m : Nat} {l : List Byte} (hl : l.length = m) (h : m ≤ n) :
    padTo n l = l ++ List.replicate (n - m) 0x00 := by
  have hlength : (l ++ List.replicate (n - l.length) 0x00).length = n := by simp; omega
  rw [padTo, List.take_of_length_le hlength.le, hl]

theorem length_code (n : Nat) : (code n).length = 1 := length_octets 1 n

theorem length_absent (n : Nat) : (absent n).length = n := List.length_replicate

theorem length_flagOctet (x : Bool) : (flagOctet x).length = 1 := rfl

theorem length_optionCode {α : Type} (f : α → Nat) (v : Option α) : (optionCode f v).length = 1 :=
  length_optionOctets 1 _

theorem length_signedOctets (n : Nat) (v : Int) : (signedOctets n v).length = n := length_octets n _

theorem length_tagOctets (t : TrainTag) : (tagOctets t).length = 4 := rfl

theorem length_stampOctets (t : Stamp) : (stampOctets t).length = 10 := by
  simp [stampOctets, length_octets]

theorem length_optionStamp (t : Option Stamp) : (optionStamp t).length = 10 := by
  cases t with
  | none => exact length_absent 10
  | some x => exact length_stampOctets x

theorem length_optionTag (t : Option TrainTag) : (optionTag t).length = 4 := by
  cases t with
  | none => exact length_absent 4
  | some x => exact length_tagOctets x

theorem length_heldValue (h : Option Held) : (Machine.heldOctets h).length = 6 := by
  cases h with
  | none => exact length_absent 6
  | some v =>
    have hv : (valueOctets (some v.value)).length = 5 := length_padTo 5 _
    simp [Machine.heldOctets, hv, length_flagOctet]

theorem length_latchedOctets (f : Option Latched) : (latchedOctets f).length = 11 := by
  cases f with
  | none => exact length_absent 11
  | some x => simp [latchedOctets, length_code, length_stampOctets]

theorem length_flatMap_octets (l : List Nat) : (l.flatMap (octets 2)).length = 2 * l.length := by
  induction l with
  | nil => rfl
  | cons n l ih =>
    rw [List.flatMap_cons, List.length_append, ih, length_octets, List.length_cons]
    omega

theorem length_historyOctets {l : List Nat} (h : l.length ≤ 4) : (historyOctets l).length = 8 := by
  simp only [historyOctets, List.length_append, length_flatMap_octets, length_absent]
  omega

/-- READ ELEMENT reports 76 octets of a record (R73). -/
theorem length_elementOctets {r : ElementRecord} (h : ∀ p, r.part = .point p → p.history.length ≤ 4) :
    r.octets.length = 76 := by
  have hlimits : r.limitOctets.length = 13 := by
    unfold ElementRecord.limitOctets
    cases r.part <;> simp [length_octets, length_absent, length_flagOctet]
  have hpart : r.partOctets.length = 21 := by
    unfold ElementRecord.partOctets
    cases hp : r.part with
    | point p =>
      have hhistory := length_historyOctets (h p hp)
      cases hm : p.movement <;> simp [PointPart.octets, hm, hhistory, length_code, length_absent]
    | signal g =>
      cases hc : g.confirmation <;>
        simp [SignalPart.octets, hc, length_optionTag, length_code, length_absent, length_flagOctet]
  simp [ElementRecord.octets, hlimits, hpart, length_octets, length_code, length_heldValue, length_optionOctets,
    length_optionStamp, length_latchedOctets]

/-- READ ENTRY reports 44 octets of an entry (R136). -/
theorem length_entryOctets (e : TimetableEntry) : e.octets.length = 44 := by
  have hmatch : (matchOctets e.matched).length = 12 := by
    unfold matchOctets deviationOctets
    cases e.matched <;> simp [length_absent, length_stampOctets, length_optionSignedOctets]
  simp [TimetableEntry.octets, hmatch, length_octets, length_code, length_tagOctets, length_instantOctets,
    length_signedOctets]

/-- A record entry has sixty-four octets (R193). -/
theorem length_recordEntry (e : Entry) : e.octets.length = 64 := by
  simp [Entry.octets, length_octets, length_code, length_stampOctets, length_padTo]

/-! ## Octets of a number (R189) -/

/-- The octets of a number are its digits to the base 256, most significant first. -/
theorem toNat_octets {n v k : Nat} {b : Byte} (h : (octets n v)[k]? = some b) :
    b.toNat = v / 256 ^ (n - 1 - k) % 256 := by
  induction n generalizing k with
  | zero => simp [octets] at h
  | succ n ih =>
    cases k with
    | zero =>
      obtain rfl : BitVec.ofNat 8 (v / 256 ^ n) = b := Option.some.inj h
      exact BitVec.toNat_ofNat _ _
    | succ k =>
      rw [ih h]
      congr 3
      omega

/-! ## READ RECORD (R155, R191) -/

/-- A list of entries from the first of a number. -/
theorem entriesFrom_append {n : Word32} {u v : List Entry} {e : Entry} (hu : ∀ x ∈ u, x.sequence ≠ n)
    (he : e.sequence = n) : entriesFrom n (u ++ e :: v) = e :: v := by
  induction u with
  | nil => simp [entriesFrom, he]
  | cons x u ih =>
    rw [List.forall_mem_cons] at hu
    simpa [entriesFrom, hu.1] using ih hu.2

theorem returned_of_held {r : EventRecord} {n : Word32} {u v : List Entry} {e : Entry} (hr : r.entries = u ++ e :: v)
    (hu : ∀ x ∈ u, x.sequence ≠ n) (he : e.sequence = n) : r.returned n = (e :: v).take 4 := by
  have hheld : r.holds n = true := holds_iff.mpr ⟨e, by simp [hr], he⟩
  rw [EventRecord.returned, if_pos hheld, hr, entriesFrom_append hu he]

theorem not_holds_iff {r : EventRecord} {n : Word32} : ¬ r.holds n = true ↔ ∀ x ∈ r.entries, x.sequence ≠ n := by
  rw [holds_iff]
  push Not
  rfl

/-- A number that is not held returns the oldest entries where it lies behind them (R152, R155). -/
theorem returned_of_gone {r : EventRecord} {n : Word32} {e : Entry} {v : List Entry} (hn : ∀ x ∈ r.entries, x.sequence ≠ n)
    (hr : r.entries = e :: v) :
    r.returned n = if isBehind n e.sequence = true then r.entries.take 4 else [] := by
  have hreference : r.reference = e.sequence := by rw [EventRecord.reference, hr]
  rw [EventRecord.returned, if_neg (not_holds_iff.mpr hn), hreference]
  exact if_congr (and_iff_left (by simp [hr])) rfl rfl

theorem returned_of_empty {r : EventRecord} {n : Word32} (hr : r.entries = []) : r.returned n = [] := by
  simp [EventRecord.returned, EventRecord.holds, hr]

theorem length_returned_le (r : EventRecord) (n : Word32) : (r.returned n).length ≤ 4 := by
  unfold EventRecord.returned
  split
  · exact List.length_take_le 4 _
  · split
    · exact List.length_take_le 4 _
    · exact Nat.zero_le 4

theorem length_flatMap_entries (l : List Entry) : (l.flatMap Entry.octets).length = 64 * l.length := by
  induction l with
  | nil => rfl
  | cons e l ih =>
    rw [List.flatMap_cons, List.length_append, ih, length_recordEntry, List.length_cons]
    omega

/-- Entries stand one after another, each in its sixty-four octets. -/
theorem take_drop_entries {l : List Entry} {k : Nat} {e : Entry} (h : l[k]? = some e) (z : List Byte) :
    ((l.flatMap Entry.octets ++ z).drop (64 * k)).take 64 = e.octets := by
  induction l generalizing k with
  | nil => simp at h
  | cons x l ih =>
    rw [List.flatMap_cons, List.append_assoc]
    cases k with
    | zero =>
      obtain rfl : x = e := Option.some.inj h
      exact List.take_left' (length_recordEntry x)
    | succ k =>
      have hdrop : (x.octets ++ (l.flatMap Entry.octets ++ z)).drop (64 * (k + 1)) =
          (l.flatMap Entry.octets ++ z).drop (64 * k) := by
        rw [show 64 * (k + 1) = x.octets.length + 64 * k by rw [length_recordEntry]; omega, ← List.drop_drop,
          List.drop_left]
      rw [hdrop]
      exact ih h

/-- The first twelve octets of the reply to READ RECORD (R155). -/
def recordHead (s : State) (f : Word32) : List Byte :=
  code (s.record.returned f).length ++ [0x00]
    ++ optionOctets 4 ((s.record.returned f).head?.map (fun e => e.sequence.toNat)) ++ octets 4 s.record.next.toNat
    ++ octets 2 s.record.occupancy

theorem length_recordHead (s : State) (f : Word32) : (recordHead s f).length = 12 := by
  simp [recordHead, length_code, length_optionOctets, length_octets]

theorem recordReply_eq (s : State) (f : Word32) :
    s.recordReply f = recordHead s f
      ++ ((s.record.returned f).flatMap Entry.octets ++ List.replicate (256 - 64 * (s.record.returned f).length) 0x00) := by
  have hle := length_returned_le s.record f
  have hlength : (recordHead s f ++ (s.record.returned f).flatMap Entry.octets).length =
      12 + 64 * (s.record.returned f).length := by
    rw [List.length_append, length_recordHead, length_flatMap_entries]
  have hpad := padTo_of_length (n := 268) hlength (by omega)
  rw [show 268 - (12 + 64 * (s.record.returned f).length) = 256 - 64 * (s.record.returned f).length by omega,
    List.append_assoc] at hpad
  exact hpad

/-- The reply to READ RECORD: its head, the entries returned in their places, and zeros (R155, R191). -/
theorem recordReply_octets (s : State) (f : Word32) :
    (s.recordReply f).take 12 = recordHead s f
      ∧ (∀ k e, (s.record.returned f)[k]? = some e → ((s.recordReply f).drop (12 + 64 * k)).take 64 = e.octets)
      ∧ ∀ x ∈ (s.recordReply f).drop (12 + 64 * (s.record.returned f).length), x = 0x00 := by
  have hhead : (recordHead s f).length = 12 := length_recordHead s f
  rw [recordReply_eq]
  refine ⟨List.take_left' hhead, fun k e hk => ?_, ?_⟩
  · rw [← List.drop_drop, List.drop_left' hhead]
    exact take_drop_entries hk _
  · rw [← List.drop_drop, List.drop_left' hhead, List.drop_left' (length_flatMap_entries _)]
    exact fun x hx => List.eq_of_mem_replicate hx

/-! ## READ ELEMENT and READ ENTRY (R73, R136) -/

/-- The record that a search finds: that of the address, or the first from it on. -/
theorem findElement_eq_some_iff {s : State} (h : s.TablesOk) {a : Nat} {k : Search} {r : ElementRecord} :
    s.findElement a k = some r ↔
      r ∈ s.elements ∧ (k = .exact → r.address = a)
        ∧ (k = .following → a ≤ r.address ∧ ∀ x ∈ s.elements, a ≤ x.address → r.address ≤ x.address) := by
  cases k with
  | exact => simpa [State.findElement] using element_eq_some_iff h
  | following => simpa [State.findElement] using find?_from_key_eq_some_iff (keyed_of_tablesOk h).1

theorem findEntry_eq_some_iff {s : State} (h : s.TablesOk) {i : Nat} {k : Search} {e : TimetableEntry} :
    s.findEntry i k = some e ↔
      e ∈ s.checker.store ∧ (k = .exact → e.id = i)
        ∧ (k = .following → i ≤ e.id ∧ ∀ x ∈ s.checker.store, i ≤ x.id → e.id ≤ x.id) := by
  cases k with
  | exact => simpa [State.findEntry] using entry_eq_some_iff h
  | following => simpa [State.findEntry] using find?_from_key_eq_some_iff (keyed_of_tablesOk h).2

theorem elementReply_of_some (s : State) {r : ElementRecord} (h : ∀ p, r.part = .point p → p.history.length ≤ 4) :
    s.elementReply (some r) = octets 2 s.elements.length ++ r.octets ++ List.replicate 18 0x00 :=
  padTo_of_length (n := 96) (m := 78) (by
    rw [List.length_append, length_octets]
    exact congrArg (2 + ·) (length_elementOctets h)) (by decide)

theorem elementReply_of_none (s : State) :
    s.elementReply none = octets 2 s.elements.length ++ List.replicate 94 0x00 := by
  have hpad := padTo_of_length (n := 96) (length_octets 2 s.elements.length) (by decide)
  rw [State.elementReply, Option.map_none, Option.getD_none, List.append_nil]
  exact hpad

theorem entryReply_of_some (s : State) (e : TimetableEntry) :
    s.entryReply (some e) = octets 2 s.checker.store.length ++ e.octets ++ [0x00, 0x00] :=
  padTo_of_length (n := 48) (m := 46) (by
    rw [List.length_append, length_octets]
    exact congrArg (2 + ·) (length_entryOctets e)) (by decide)

theorem entryReply_of_none (s : State) :
    s.entryReply none = octets 2 s.checker.store.length ++ List.replicate 46 0x00 := by
  have hpad := padTo_of_length (n := 48) (length_octets 2 s.checker.store.length) (by decide)
  rw [State.entryReply, Option.map_none, Option.getD_none, List.append_nil]
  exact hpad

/-- The record that READ ELEMENT is to find under a search code: EXACT, then NEXT (R73). -/
def elementSought (s : State) (a k : Nat) (r : ElementRecord) : Prop :=
  r ∈ s.elements ∧ (k = 1 → r.address = a)
    ∧ (k = 2 → a ≤ r.address ∧ ∀ x ∈ s.elements, a ≤ x.address → r.address ≤ x.address)

/-- The entry that READ ENTRY is to find under a search code (R136). -/
def entrySought (s : State) (i k : Nat) (e : TimetableEntry) : Prop :=
  e ∈ s.checker.store ∧ (k = 1 → e.id = i)
    ∧ (k = 2 → i ≤ e.id ∧ ∀ x ∈ s.checker.store, i ≤ x.id → e.id ≤ x.id)

section
variable {s : State} (hs : s.TablesOk) {k : Nat} (hk : k = 1 ∨ k = 2)
include hs hk

theorem reply_readElement (a : Nat) :
    (∀ r, elementSought s a k r → (∀ p, r.part = .point p → p.history.length ≤ 4) →
      s.reply (.readElement a k) = some (octets 2 s.elements.length ++ r.octets ++ List.replicate 18 0x00))
    ∧ ((∀ r, ¬ elementSought s a k r) →
      s.reply (.readElement a k) = some (octets 2 s.elements.length ++ List.replicate 94 0x00)) := by
  obtain ⟨j, hj, hkj⟩ : ∃ j, searchOf k = some j ∧ ∀ r, s.findElement a j = some r ↔ elementSought s a k r := by
    obtain rfl | rfl := hk
    · exact ⟨.exact, rfl, fun r => by simpa [elementSought] using findElement_eq_some_iff hs (k := .exact)⟩
    · exact ⟨.following, rfl, fun r => by simpa [elementSought] using findElement_eq_some_iff hs (k := .following)⟩
  have hreply : s.reply (.readElement a k) = some (s.elementReply (s.findElement a j)) := by
    rw [State.reply, hj, Option.bind_some]
  refine ⟨fun r hr hhistory => ?_, fun hnone => ?_⟩
  · rw [hreply, (hkj r).mpr hr, elementReply_of_some s hhistory]
  · rw [hreply, Option.eq_none_iff_forall_ne_some.mpr fun r hr => hnone r ((hkj r).mp hr), elementReply_of_none]

theorem reply_readEntry (i : Nat) :
    (∀ e, entrySought s i k e →
      s.reply (.readEntry i k) = some (octets 2 s.checker.store.length ++ e.octets ++ [0x00, 0x00]))
    ∧ ((∀ e, ¬ entrySought s i k e) →
      s.reply (.readEntry i k) = some (octets 2 s.checker.store.length ++ List.replicate 46 0x00)) := by
  obtain ⟨j, hj, hkj⟩ : ∃ j, searchOf k = some j ∧ ∀ e, s.findEntry i j = some e ↔ entrySought s i k e := by
    obtain rfl | rfl := hk
    · exact ⟨.exact, rfl, fun e => by simpa [entrySought] using findEntry_eq_some_iff hs (k := .exact)⟩
    · exact ⟨.following, rfl, fun e => by simpa [entrySought] using findEntry_eq_some_iff hs (k := .following)⟩
  have hreply : s.reply (.readEntry i k) = some (s.entryReply (s.findEntry i j)) := by
    rw [State.reply, hj, Option.bind_some]
  refine ⟨fun e he => ?_, fun hnone => ?_⟩
  · rw [hreply, (hkj e).mpr he, entryReply_of_some]
  · rw [hreply, Option.eq_none_iff_forall_ne_some.mpr fun e he => hnone e ((hkj e).mp he), entryReply_of_none]

end

/-! ## READ STATUS (R186) -/

/-- The actions in the order of their kinds, which is the order of the table (R157). -/
theorem actions_eq_map {s : State} (h : s.alarms.actions.length = 27) : s.alarms.actions = kindList.map s.actionOf := by
  refine List.ext_getElem (by rw [h]; rfl) fun i hi hk => ?_
  have hindex : ∀ j (hj : j < kindList.length), (kindList[j]).index = j := by decide
  have hlt : i < kindList.length := by simpa using hk
  rw [List.getElem_map, State.actionOf, hindex i hlt, List.getD_eq_getElem _ _ hi]

theorem length_flatMap_code {α : Type} (f : α → Nat) (l : List α) : (l.flatMap fun x => code (f x)).length = l.length := by
  induction l with
  | nil => rfl
  | cons x l ih =>
    rw [List.flatMap_cons, List.length_append, ih, length_code, List.length_cons, Nat.add_comm]

/-- The groups of READ STATUS, one after another (R186). -/
def statusGroups (s : State) : List Byte :=
  s.partGroup ++ s.timeGroup ++ s.referenceGroup ++ s.recordGroup ++ s.alarmGroup ++ s.portA.octets ++ s.portB.octets
    ++ s.lineOctets s.line1 ++ s.lineOctets s.line2 ++ s.timetableGroup

theorem length_partGroup (s : State) : s.partGroup.length = 17 := by
  unfold State.partGroup
  cases s.service.error <;> simp [length_octets, length_code, length_flagOctet, length_absent, length_stampOctets]

theorem length_timeGroup (s : State) : s.timeGroup.length = 29 := by
  have hpending : (pendingOctets s.time.pendingOffset).length = 7 := by
    unfold pendingOctets
    cases s.time.pendingOffset <;>
      simp [length_optionSignedOctets, length_absent, length_signedOctets, length_instantOctets]
  simp [State.timeGroup, hpending, length_octets, length_code, length_flagOctet, length_stampOctets, length_signedOctets]

theorem length_referenceGroup (s : State) : s.referenceGroup.length = 15 := by
  simp [State.referenceGroup, allSources, State.sourceOctets, State.counterOctets, length_optionCode, length_code,
    length_flagOctet, length_optionOctets]

theorem length_recordGroup (s : State) : s.recordGroup.length = 13 := by
  simp [State.recordGroup, length_octets, length_optionOctets, length_flagOctet]

theorem length_alarmGroup {s : State} (h : s.alarms.actions.length = 27) : s.alarmGroup.length = 85 := by
  simp only [State.alarmGroup, List.length_append, length_flagOctet, length_latchedOctets, length_octets,
    length_flatMap_code, h]

theorem length_portOctets (x : Port) : x.octets.length = 6 := by
  simp [Port.octets, length_code, length_octets]

theorem length_lineOctets (s : State) (x : Line) : (s.lineOctets x).length = 10 := by
  simp [State.lineOctets, length_code, length_flagOctet, length_optionOctets, length_optionCode]

theorem length_timetableGroup (s : State) : s.timetableGroup.length = 22 := by
  have hschedule : (scheduleOctets s.checker.schedule).length = 7 := by
    unfold scheduleOctets
    cases s.checker.schedule <;> simp [length_absent, length_instantOctets, length_octets]
  have hdrain : (drainEndOctets s.checker.drainEnd).length = 5 := by
    unfold drainEndOctets
    cases s.checker.drainEnd <;> simp [length_absent, secondsOctets, length_instantOctets]
  simp [State.timetableGroup, hschedule, hdrain, length_octets, length_code]

/-- READ STATUS reports 213 octets (R186). -/
theorem length_statusGroups {s : State} (h : s.alarms.actions.length = 27) : (statusGroups s).length = 213 := by
  simp only [statusGroups, List.length_append, length_partGroup, length_timeGroup, length_referenceGroup,
    length_recordGroup, length_alarmGroup h, length_portOctets, length_lineOctets, length_timetableGroup]

theorem statusReply_eq {s : State} (h : s.alarms.actions.length = 27) :
    s.statusReply = statusGroups s ++ List.replicate 11 0x00 :=
  padTo_of_length (n := 224) (length_statusGroups h) (by decide)

end Sys2Proof.Laws
end

namespace Sys2Proof.Proofs

open Sys2Proof Sys2Proof.Machine Sys2Proof.Laws

/-- Settles O4: the codes are the places in their lists, so the fields are those that the statement lists, and the areas
follow from their lengths and from what a search in a table kept in order finds. -/
theorem readRepliesAreLaidOut : Obligations.ReadRepliesAreLaidOut := by
  refine ⟨fun n v => ⟨length_octets n v, fun k b => toNat_octets⟩, ?_⟩
  intro s none8 b opt signed flag stamp optStamp instant optInstant seconds centre tag optTag source port line period check
    opState loop loopMode lineState polarity quality elementKind target detected action kinds latchKind latched latchTarget
    value padded deviation moved fault contents held element entry sourceStatus counter portStatus lineStatus
  have hstamp : ∀ x, stampOctets x = stamp x := fun x => by rw [stampOctets, quality_code_eq]
  have hoptStamp : ∀ v, optionStamp v = optStamp v := fun v => by
    cases v with
    | none => rfl
    | some x => exact hstamp x
  have hvalue : ∀ x, valueBody x = value x := fun x => by
    cases x with
    | target t => simp only [valueBody, target_code_eq]; rfl
    | aspect a g => cases g <;> rfl
    | detected d => rfl
    | shown a l => simp only [valueBody, lamp_code_eq]; rfl
  have hpadded : ∀ n v, statusOctets n v = padded n v := fun n v => by
    cases v with
    | none => rfl
    | some x => simp only [statusOctets, padTo_eq, hvalue]; rfl
  have hvalueOctets : ∀ v, valueOctets v = padded 5 v := hpadded 5
  have hlatchKind : ∀ x, LatchKind.code x = latchKind x := fun x => by
    cases x with
    | kind k => exact congrFun actionKind_code_eq k
    | escalated => rfl
  have hlatched : ∀ v, latchedOctets v = latched v := fun v => by
    cases v with
    | none => rfl
    | some x => simp only [latchedOctets, hlatchKind, hstamp]; rfl
  have hlatchTarget : ∀ x, targetOctets x = latchTarget x := fun x => by
    cases x with
    | element a => rfl
    | time => rfl
    | line l => cases l <;> rfl
    | port p => cases p <;> rfl
  have hdeviation : ∀ v, deviationOctets v = deviation v := fun v => by cases v <;> rfl
  have hoptTag : ∀ v, optionTag v = optTag v := fun v => by cases v <;> rfl
  have hoptInstant : ∀ v, optionInstantOctets v = optInstant v := fun v => by cases v <;> rfl
  have hopt : ∀ n v, optionOctets n v = opt n v := fun n v => by cases v <;> rfl
  have hfault : ∀ d, fault d = (d.type, d.kind, d.octets) := fun d => by
    cases d <;> simp only [FaultDetail.octets, optionCode, target_code_eq, hstamp, hoptStamp, hpadded, hoptTag, hopt] <;> rfl
  have hmoved : ∀ x y e k n, moveOctets x y e k n = moved x y e k n := fun x y e k n => by
    rw [moveOctets, source_code_eq]; rfl
  have hcontents : ∀ x, contents x = (x.kindType.1, x.kindType.2, x.octets) := fun x => by
    cases x with
    | fault a d =>
      have hkind : fault d = (d.type, d.kind, d.octets) := hfault d
      simp only [contents, hkind, EntryBody.octets, EntryBody.kindType, actionKind_code_eq]
      rfl
    | verdict v =>
      simp only [EntryBody.octets, EntryBody.kindType, VerdictEntry.octets, optionCode, hoptStamp, hdeviation, hoptInstant,
        hopt, period_code_eq, checkKind_code_eq, verdictClass_code_eq, withdrawReason_code_eq]
      rfl
    | _ =>
      simp only [EntryBody.octets, MovementEntry.octets, optionCode, hmoved, hstamp, hoptStamp, hvalueOctets, hlatchKind,
        hlatchTarget, hoptInstant, hopt, actionKind_code_eq, quality_code_eq, source_code_eq, port_code_eq, line_code_eq,
        period_code_eq, opState_code_eq, loop_code_eq, loopMode_code_eq, lineState_code_eq, polarity_code_eq,
        elementKind_code_eq, target_code_eq, telegramKind_code_eq, movementOutcome_code_eq, selectReason_code_eq,
        cause_code_eq]
      rfl
  have hheld : ∀ v, Machine.heldOctets v = held v := fun v => by
    cases v with
    | none => rfl
    | some h => simp only [Machine.heldOctets, hvalueOctets]; rfl
  have helement : ∀ r : ElementRecord, r.octets = element r := fun r => by
    obtain ⟨address, mode, limit, command, status, cseq, sseq, coverage, regained, deadline, fault, references, part⟩ := r
    cases part with
    | signal g =>
      simp only [ElementRecord.octets, ElementRecord.limitOctets, ElementRecord.partOctets, SignalPart.octets, hheld,
        hoptStamp, hlatched, hoptTag, hopt, elementKind_code_eq, elementMode_code_eq, coverage_code_eq, element,
        List.append_assoc]
      rfl
    | point p =>
      obtain ⟨startLimit, runLimit, settleTime, maxBounces, warning, movement, history⟩ := p
      cases movement <;>
        simp only [ElementRecord.octets, ElementRecord.limitOctets, ElementRecord.partOctets, PointPart.octets,
          historyOctets, hheld, hoptStamp, hlatched, hopt, elementKind_code_eq, elementMode_code_eq, coverage_code_eq,
          phase_code_eq, target_code_eq, element, List.append_assoc] <;>
        rfl
  have hentry : ∀ e : TimetableEntry, e.octets = entry e := fun e => by
    have hmatch : matchOctets e.matched =
        match e.matched with | none => none8 10 ++ [0x80, 0x00] | some m => stamp m.1 ++ signed 2 m.2 := by
      cases e.matched with
      | none => rfl
      | some m => simp only [matchOctets, hstamp]; rfl
    simp only [TimetableEntry.octets, hmatch, period_code_eq, checkKind_code_eq, entryState_code_eq]
    rfl
  refine ⟨fun q hq => ?_, fun f => ?_, fun e => ?_, fun hs a k hk => ?_, fun hs i k hk => ?_, fun hs => ?_⟩
  · cases q with
    | readStatus | readElement | readEntry | readRecord => cases hq
    | _ => rfl
  · obtain ⟨hhead, hplaces, hrest⟩ := recordReply_octets s f
    refine ⟨s.record.returned f, s.recordReply f, rfl, length_padTo 268 _, fun u e v hr he hu => returned_of_held hr hu he,
      fun hn e v hr => ⟨fun hbehind => ?_, fun hbehind => ?_⟩, returned_of_empty, hhead.trans ?_, hplaces, hrest⟩
    · rw [returned_of_gone hn hr, if_pos (isBehind_iff.mpr hbehind)]
    · rw [returned_of_gone hn hr, if_neg (isBehind_iff.not.mpr hbehind)]
    · rw [recordHead]
      cases s.record.returned f <;> rfl
  · rw [Entry.octets, hcontents, hstamp, padTo_eq]
    cases e.action <;> rfl
  · simp only [← helement]
    exact reply_readElement hs hk a
  · simp only [← hentry]
    exact reply_readEntry hs hk i
  · have hsource : ∀ x, s.sourceOctets x = sourceStatus x := fun x => by
      rw [State.sourceOctets, qualification_code_eq]
      rfl
    have hcounter : ∀ w, s.counterOctets w = counter w := fun w => by
      simp only [State.counterOctets, hopt, counter]
      cases (s.wired w).message <;> rfl
    have hport : ∀ x : Port, x.octets = portStatus x := fun x => by
      rw [Port.octets, loopMode_code_eq, loop_code_eq, activity_code_eq]
      rfl
    have hline : ∀ x : Line, s.lineOctets x = lineStatus x := fun x => by
      have htarget : optionOctets 2 (s.reportedTarget x) =
          if x.shown.isSome = true ∧ s.time.timeSet = true then octets 2 (s.time.target x.step) else none8 2 := by
        unfold State.reportedTarget
        split <;> rfl
      simp only [State.lineOctets, optionCode, hopt, lineState_code_eq, polarity_code_eq] at htarget ⊢
      rw [htarget]
      rfl
    have herror : s.partGroup = octets 2 s.service.stationAddress ++ b (opState s.service.state) ++ flag s.service.runCondition
        ++ (match s.service.error with
          | none => none8 13
          | some e => [e.code] ++ b (placeIn [.done, .doneClamped, .refusedState, .refusedArgument, .full, .notFound,
              .referenced, .idInUse, .tooLate, .notATimetablePoint, .badTolerance, .periodNotLoadable, .superseded] e.result)
            ++ b (match e.reason with | none => 0 | some .noElements => 1 | some .timeUnset => 2) ++ stamp e.stamp) := by
      unfold State.partGroup
      rw [opState_code_eq]
      cases s.service.error with
      | none => rfl
      | some e =>
        simp only [hstamp, result_code_eq]
        rfl
    have hnow : stampOctets (s.stampOf s.capture) = octets 2 (s.time.centre / 86400000000000)
        ++ octets 5 (s.time.centre % 86400000000000 / 1000) ++ octets 2 s.time.epoch ++ b (quality s.time.quality) := hstamp _
    have hpending : pendingOctets s.time.pendingOffset =
        match s.time.pendingOffset with
        | none => [0x80, 0x00] ++ none8 5 | some x => signed 2 x.offset ++ instant x.instant := by
      cases s.time.pendingOffset <;> rfl
    have hhead : optionOctets 4 (s.record.entries.head?.map fun e => e.sequence.toNat) =
        match s.record.entries with | [] => none8 4 | e :: _ => octets 4 e.sequence.toNat := by
      cases s.record.entries <;> rfl
    have hlast : optionOctets 4 (s.record.entries.getLast?.map fun e => e.sequence.toNat) =
        match s.record.entries.getLast? with | none => none8 4 | some e => octets 4 e.sequence.toNat := by
      cases s.record.entries.getLast? <;> rfl
    have hactions : (s.alarms.actions.flatMap fun a => code a.code) = kinds.flatMap fun k => b (action (s.actionOf k)) := by
      rw [actions_eq_map hs.2, List.flatMap_map]
      rfl
    have hschedule : scheduleOctets s.checker.schedule =
        match s.checker.schedule with | none => none8 7 | some x => instant x.instant ++ octets 2 x.drain := by
      cases s.checker.schedule <;> rfl
    have hdrain : drainEndOctets s.checker.drainEnd = match s.checker.drainEnd with | none => none8 5 | some n => seconds n := by
      cases s.checker.drainEnd <;> rfl
    rw [State.reply, statusReply_eq hs.2]
    simp only [statusGroups, herror, State.timeGroup, hnow, hpending, State.referenceGroup, allSources, List.flatMap_cons,
      List.flatMap_nil, List.append_nil, hsource, hcounter, State.recordGroup, hhead, hlast, State.alarmGroup, hlatched,
      hactions, hport, hline, State.timetableGroup, hschedule, hdrain, optionCode, hopt, mode_code_eq, quality_code_eq,
      source_code_eq, tagState_code_eq, List.append_assoc]
    rfl

end Sys2Proof.Proofs

section
/-! SUPPORT. A raise action by action, and the latch it sets. -/

namespace Sys2Proof.Laws

open Sys2Proof Sys2Proof.Machine

/-! ## Latches written (R159, R161) -/

theorem anyLatch_of_latchOf {s : State} {g : LatchTarget} {f : Latched} (h : s.latchOf g = some f) :
    s.anyLatch = true := by
  cases g with
  | element a =>
    obtain ⟨r, hr, hf⟩ := Option.bind_eq_some_iff.mp h
    have hany : s.elements.any (fun r => r.latched.isSome) = true :=
      List.any_eq_true.mpr ⟨r, element_mem hr, by rw [hf]; rfl⟩
    simp [State.anyLatch, hany]
  | time =>
    have ht : s.alarms.time = some f := h
    simp [State.anyLatch, ht]
  | line l =>
    cases l with
    | one =>
      have hl : s.alarms.line1 = some f := h
      simp [State.anyLatch, hl]
    | two =>
      have hl : s.alarms.line2 = some f := h
      simp [State.anyLatch, hl]
  | port p =>
    cases p with
    | a =>
      have hp : s.alarms.portA = some f := h
      simp [State.anyLatch, hp]
    | b =>
      have hp : s.alarms.portB = some f := h
      simp [State.anyLatch, hp]

/-- A target that exists reads back the latch written to it (R159). -/
theorem latchOf_setLatch_held {s : State} {g : LatchTarget} (h : s.targetHeld g = true) (x : Option Latched) :
    (s.setLatch g x).latchOf g = x := by
  cases g with
  | element a =>
    obtain ⟨r, hr⟩ := Option.isSome_iff_exists.mp h
    have he : (s.setLatch (.element a) x).element a = (s.element a).map fun r => { r with latched := x } :=
      element_modifyElement_same s a _ fun _ => rfl
    simp only [State.latchOf, he, hr, Option.map_some, Option.bind_some]
  | time => rfl
  | line l => cases l <;> rfl
  | port p => cases p <;> rfl

theorem setLatch_actions (s : State) (g : LatchTarget) (x : Option Latched) :
    (s.setLatch g x).alarms.actions = s.alarms.actions := by
  cases g with
  | element a => rfl
  | time => rfl
  | line l => cases l <;> rfl
  | port p => cases p <;> rfl

theorem latch_of_latched {s : State} {g : LatchTarget} {f : Latched} (h : s.latchOf g = some f) (k : LatchKind)
    (c : Capture) : s.latch g k c = s := by
  simp only [State.latch, h]

theorem latch_of_unlatched {s : State} {g : LatchTarget} (h : s.latchOf g = none) (k : LatchKind) (c : Capture) :
    s.latch g k c = (s.setLatch g (some { kind := k, stamp := s.stampOf c })).evalAlarm := by
  simp only [State.latch, h]

/-- A target without a latched fault takes the first one: its latch, those of the others, and the output (R159, R161). -/
theorem latchOf_latch {s : State} {g : LatchTarget} (h : s.latchOf g = none) (hg : s.targetHeld g = true) (k : LatchKind)
    (c : Capture) :
    (s.latch g k c).latchOf g = some { kind := k, stamp := s.stampOf c }
      ∧ (∀ j, j ≠ g → (s.latch g k c).latchOf j = s.latchOf j)
      ∧ (s.latch g k c).alarms.output = true ∧ (s.latch g k c).alarms.actions = s.alarms.actions := by
  have hset := latchOf_setLatch_held hg (some { kind := k, stamp := s.stampOf c })
  rw [latch_of_unlatched h]
  exact ⟨(latchOf_evalAlarm _ g).trans hset, fun j hj => (latchOf_evalAlarm _ j).trans (latchOf_setLatch_ne s hj _),
    anyLatch_of_latchOf hset, setLatch_actions s g _⟩

/-! ## The action applied (R157) -/

/-- What is not qualified is recorded at most (R157). -/
theorem appliedAction_eq (x : Action) (q : Bool) :
    appliedAction x q = if x = .off ∨ q = true then x else .record := by
  cases q with
  | true => simp [appliedAction]
  | false => cases x <;> rfl

section
variable {s : State} {r : Raise}

theorem raise_of_off (h : appliedAction (s.actionOf r.kind) r.qualified = .off) : s.raise r = s := by
  simp only [State.raise, h]

theorem raise_of_record (h : appliedAction (s.actionOf r.kind) r.qualified = .record) :
    s.raise r = s.attempt { capture := r.capture, body := r.body, alarm := false, action := some .record, latch := false,
                            test := r.test } := by
  simp only [State.raise, h]

theorem raise_of_alert (h : appliedAction (s.actionOf r.kind) r.qualified = .alert) :
    s.raise r = s.attempt { capture := r.capture, body := r.body, alarm := true, action := some .alert, latch := false,
                            test := r.test } := by
  simp only [State.raise, h]

/-- LATCH on a target already latched keeps its fault (R159). -/
theorem raise_of_latch_latched {f : Latched} (h : appliedAction (s.actionOf r.kind) r.qualified = .latch)
    (hf : s.latchOf r.target = some f) :
    s.raise r = s.attempt { capture := r.capture, body := r.body, alarm := true, action := some .latch, latch := false,
                            test := r.test } := by
  simp only [State.raise, h, latch_of_latched hf, hf, Option.isNone_some]

theorem raise_of_latch_unlatched (h : appliedAction (s.actionOf r.kind) r.qualified = .latch)
    (hn : s.latchOf r.target = none) :
    s.raise r = (s.latch r.target (.kind r.kind) r.capture).attempt
      { capture := r.capture, body := r.body, alarm := true, action := some .latch, latch := true, test := r.test } := by
  simp only [State.raise, h, hn, Option.isNone_none]

end

theorem attempt_sameBut (s : State) (d : Draft) : sameBut s (s.attempt d) [.record] := by
  intro b hb
  cases b <;> simp_all [Block.same]

/-- A raise leaves every block but the record, the alarm unit and the latches of the element table. -/
theorem raise_leaves (s : State) (r : Raise) : sameBut s (s.raise r) [.record, .alarms, .elements] := by
  intro b hb
  cases b <;> simp_all [Block.same]

end Sys2Proof.Laws
end

namespace Sys2Proof.Proofs

open Sys2Proof Sys2Proof.Machine Sys2Proof.Laws

/-- Settles O14: the action that applies, one by one, and for LATCH whether the target is already latched. -/
theorem raiseAppliesAction : Obligations.RaiseAppliesAction := by
  refine ⟨fun s a c d test => ?_, fun s r => ?_⟩
  · cases d <;> rfl
  · intro a t entry
    have ha : appliedAction (s.actionOf r.kind) r.qualified = a := appliedAction_eq _ _
    have hentry : ∀ x alarm latch, a = x → entry alarm latch =
        { capture := r.capture, body := r.body, alarm := alarm, action := some x, latch := latch, test := r.test } :=
      fun x alarm latch h => by rw [← h]
    have hattempt : ∀ d, t = s.attempt d → t.record = (s.attempt d).record ∧ sameBut s t [.record] :=
      fun d ht => by rw [ht]; exact ⟨rfl, attempt_sameBut s d⟩
    refine ⟨fun h => raise_of_off (ha.trans h), fun h => ?_, fun h => ?_, fun h => ⟨fun f hf => ?_, fun hn hg => ?_⟩⟩
    · rw [hentry _ _ _ h]
      exact hattempt _ (raise_of_record (ha.trans h))
    · rw [hentry _ _ _ h]
      exact hattempt _ (raise_of_alert (ha.trans h))
    · rw [hentry _ _ _ h]
      exact hattempt _ (raise_of_latch_latched (ha.trans h) hf)
    · have ht : t = (s.latch r.target (.kind r.kind) r.capture).attempt _ := raise_of_latch_unlatched (ha.trans h) hn
      obtain ⟨hown, hothers, houtput, hactions⟩ := latchOf_latch hn hg (.kind r.kind) r.capture
      have halarms : t.alarms = (s.latch r.target (.kind r.kind) r.capture).alarms := by simp [ht]
      have hlatch : ∀ g, t.latchOf g = (s.latch r.target (.kind r.kind) r.capture).latchOf g :=
        latchOf_of_eq (by simp [ht]) halarms
      refine ⟨?_, (hlatch _).trans hown, fun g hne => (hlatch g).trans (hothers g hne), by rw [halarms, houtput],
        by rw [halarms, hactions], raise_sameElements s r, sameBut_mono (raise_leaves s r) (by decide)⟩
      rw [hentry _ _ _ h, ht]
      exact record_attempt_congr (by simp) (by simp) _

end Sys2Proof.Proofs

section
/-! SUPPORT. A deadline of an element: its record changed, and the fault that is then raised. -/

namespace Sys2Proof.Laws

open Sys2Proof Sys2Proof.Machine

/-! ## A fault raised after its record was changed (R88, R119, R157) -/

/-- The record that a raise leaves depends on the record, the time base, the actions and its target's latch alone. -/
theorem record_raise_congr {s t : State} {r : Raise} (hr : t.record = s.record) (ht : t.time = s.time)
    (ha : t.alarms.actions = s.alarms.actions) (hl : t.latchOf r.target = s.latchOf r.target) :
    (t.raise r).record = (s.raise r).record := by
  have haction : t.actionOf r.kind = s.actionOf r.kind := by rw [State.actionOf, ha]; rfl
  unfold State.raise
  rw [haction, hl]
  cases appliedAction (s.actionOf r.kind) r.qualified with
  | off => exact hr
  | record => exact record_attempt_congr hr ht _
  | alert => exact record_attempt_congr hr ht _
  | latch => exact record_attempt_congr (by simp [hr]) (by simp [ht]) _

/-- A change of a record outside its address and its latch leaves every latch. -/
theorem latchOf_modifyElement (s : State) (a : Nat) {f : ElementRecord → ElementRecord}
    (hf : ∀ r, (f r).address = r.address ∧ (f r).latched = r.latched) (g : LatchTarget) :
    (s.modifyElement a f).latchOf g = s.latchOf g := by
  cases g with
  | element b =>
    obtain rfl | hb := eq_or_ne b a
    · simp only [State.latchOf, element_modifyElement_same s b f fun r => (hf r).1, Option.bind_map]
      congr 1
      exact funext fun r => (hf r).2
    · simp only [State.latchOf, element_modifyElement_ne s f (fun r => (hf r).1) hb]
  | time => rfl
  | line l => cases l <;> rfl
  | port p => cases p <;> rfl

theorem modifyElement_sameBut (s : State) (a : Nat) (f : ElementRecord → ElementRecord) :
    sameBut s (s.modifyElement a f) [.elements] := by
  intro b hb
  cases b <;> simp_all [Block.same]

/-- A record changed and then a fault raised for it: the record but for its latch, the entries, the records at other
addresses and the other blocks. -/
theorem elementFault_modifyElement {s : State} {a : Nat} {r : ElementRecord} (hr : s.element a = some r)
    {f : ElementRecord → ElementRecord} (hf : ∀ r, (f r).address = r.address ∧ (f r).latched = r.latched) (c : Capture)
    (d : FaultDetail) (test : Bool) :
    (∃ q, ((s.modifyElement a f).elementFault a c d test).element a = some q ∧ q.unlatched = (f r).unlatched)
      ∧ ((s.modifyElement a f).elementFault a c d test).record = (s.elementFault a c d test).record
      ∧ othersSame s ((s.modifyElement a f).elementFault a c d test) a
      ∧ sameBut s ((s.modifyElement a f).elementFault a c d test) [.elements, .record, .alarms] := by
  refine ⟨?_, record_raise_congr rfl rfl rfl (latchOf_modifyElement s a hf _), fun b hb => ?_, ?_⟩
  · have hraised := element_of_sameElements (t := (s.modifyElement a f).elementFault a c d test)
      (raise_sameElements (s.modifyElement a f) _) a
    rw [element_modifyElement_same s a f fun r => (hf r).1, hr] at hraised
    exact Option.map_eq_some_iff.mp hraised
  · refine (element_raise_ne _ _ b fun h => hb (LatchTarget.element.inj h).symm).trans ?_
    exact element_modifyElement_ne s f (fun r => (hf r).1) hb
  · exact sameBut_trans (sameBut_mono (modifyElement_sameBut s a f) (by decide))
      (sameBut_mono (raise_leaves _ _) (by decide))

/-! ## The silence deadline and the confirm deadline (R88, R119) -/

theorem exec_elementSilenceDeadline {s : State} (h : s.inReset = false) (dt a : Nat) :
    exec (.elementSilenceDeadline dt a) s = .next ((s.advance dt).silenceDeadline a) :=
  timed_of_running h dt (fun s => s.silenceDeadline a)

theorem exec_confirmDeadline {s : State} (h : s.inReset = false) (dt a : Nat) :
    exec (.confirmDeadline dt a) s = .next ((s.advance dt).confirmDeadline a) :=
  timed_of_running h dt (fun s => s.confirmDeadline a)

/-- A record whose coverage is lost (R88). -/
def coverageLost (r : ElementRecord) : ElementRecord := { r with coverage := .lost, silenceDeadline := none }

theorem silenceDeadline_of_reached {s : State} {a d : Nat} {r : ElementRecord} (hr : s.element a = some r)
    (hc : r.coverage = .observed) (hd : r.silenceDeadline = some d) (hreached : d ≤ s.time.elapsed) :
    s.silenceDeadline a =
      (s.modifyElement a coverageLost).elementFault a s.capture (.coverageLost r.silenceLimit r.regained)
        (decide (r.mode = .test)) := by
  simp only [State.silenceDeadline, State.reached, hr, hc, hd, hreached, decide_true, and_self, if_true]
  rfl

/-- A signal record with its confirmation overdue (R119). -/
def overdue (k : Confirmation) (r : ElementRecord) : ElementRecord :=
  r.mapSignal fun g => { g with confirmation := some { k with overdue := true } }

theorem overdue_keeps (k : Confirmation) (r : ElementRecord) :
    (overdue k r).address = r.address ∧ (overdue k r).latched = r.latched := by
  unfold overdue ElementRecord.mapSignal
  cases r.part <;> exact ⟨rfl, rfl⟩

theorem overdue_of_signal {r : ElementRecord} {g : SignalPart} (hg : r.part = .signal g) (k : Confirmation) :
    overdue k r = { r with part := .signal { g with confirmation := some { k with overdue := true } } } := by
  simp only [overdue, ElementRecord.mapSignal, hg]

section
variable {s : State} {a : Nat} {r : ElementRecord} {g : SignalPart} {k : Confirmation} (hr : s.element a = some r)
  (hg : r.part = .signal g) (hk : g.confirmation = some k) (ho : k.overdue = false) (hd : k.deadline ≤ s.time.elapsed)
include hr hg hk ho hd

theorem confirmDeadline_of_supervised (hm : r.mode = .supervise) :
    s.confirmDeadline a =
      (s.modifyElement a (overdue k)).elementFault a s.capture
        (.aspectNotShown k.aspect k.tag g.confirmLimit k.command.stamp (fresh r.lastStatus)) := by
  simp only [State.confirmDeadline, hr, hg, hk, ho, hd, hm, and_self, if_true]
  rfl

theorem confirmDeadline_of_unsupervised (hm : r.mode ≠ .supervise) :
    s.confirmDeadline a = s.modifyElement a (overdue k) := by
  simp only [State.confirmDeadline, hr, hg, hk, ho, hd, hm, and_self, if_true, if_false]
  rfl

end

end Sys2Proof.Laws
end

namespace Sys2Proof.Proofs

open Sys2Proof Sys2Proof.Machine Sys2Proof.Laws

/-- Settles O32: each deadline changes its record and raises its fault, the confirm deadline in SUPERVISE alone. -/
theorem silenceAndConfirmDeadlines : Obligations.SilenceAndConfirmDeadlines := by
  refine ⟨fun s dt a d r hreset hr hc hd hreached => ?_, fun s dt a r g k hreset hr hg hk ho hreached => ?_⟩
  · have hr' : (s.advance dt).element a = some r := hr
    obtain ⟨⟨q, hq, hqr⟩, hrecord, hothers, hblocks⟩ := elementFault_modifyElement hr' (f := coverageLost)
      (fun _ => ⟨rfl, rfl⟩) (s.advance dt).capture (.coverageLost r.silenceLimit r.regained) (decide (r.mode = .test))
    refine ⟨_, q, exec_elementSilenceDeadline hreset dt a, ?_⟩
    rw [silenceDeadline_of_reached hr' hc hd hreached]
    exact ⟨hq, hqr, hrecord, hothers, hblocks⟩
  · have hr' : (s.advance dt).element a = some r := hr
    have hoverdue : (overdue k r).unlatched =
        { r.unlatched with part := .signal { g with confirmation := some { k with overdue := true } } } := by
      rw [overdue_of_signal hg]
      rfl
    by_cases hm : r.mode = .supervise
    · obtain ⟨⟨q, hq, hqr⟩, hrecord, hothers, hblocks⟩ := elementFault_modifyElement hr' (overdue_keeps k)
        (s.advance dt).capture (.aspectNotShown k.aspect k.tag g.confirmLimit k.command.stamp (fresh r.lastStatus)) false
      refine ⟨_, q, exec_confirmDeadline hreset dt a, ?_⟩
      rw [confirmDeadline_of_supervised hr' hg hk ho hreached hm]
      exact ⟨hq, hqr.trans hoverdue, fun _ => hrecord, fun h => absurd hm h, hothers, hblocks⟩
    · refine ⟨_, overdue k r, exec_confirmDeadline hreset dt a, ?_⟩
      have haddress : ∀ r, (overdue k r).address = r.address := fun r => (overdue_keeps k r).1
      rw [confirmDeadline_of_unsupervised hr' hg hk ho hreached hm, element_modifyElement_same _ _ _ haddress, hr']
      exact ⟨rfl, hoverdue, fun h => absurd h hm, fun _ => ⟨rfl, rfl⟩,
        fun b hb => element_modifyElement_ne (s.advance dt) _ haddress hb,
        sameBut_mono (modifyElement_sameBut _ a _) (by decide)⟩

end Sys2Proof.Proofs

section
/-! SUPPORT. An element telegram that is accepted: the value held, its entry, its coverage, and the hand-off. -/

namespace Sys2Proof.Laws

open Sys2Proof Sys2Proof.Machine

/-! ## Acceptance up to the hand-off (R81 to R84, R86, R87) -/

/-- The part once an accepted telegram's value is held and a change has its ELEMENT entry (R81 to R84). -/
def valueHeld (s : State) (r : ElementRecord) (x : ElementTelegram) (v : Value) : State :=
  let t := s.modifyElement x.address (fun r => r.accept x.kind x.sequence v)
  if fresh (r.last x.kind) ≠ some v then t.elementEntry r x (fresh (r.last x.kind)) v else t

theorem valueHeld_of_same {s : State} {r : ElementRecord} {x : ElementTelegram} {v : Value}
    (h : fresh (r.last x.kind) = some v) :
    valueHeld s r x v = s.modifyElement x.address (fun r => r.accept x.kind x.sequence v) := if_neg (by simp [h])

theorem valueHeld_of_change {s : State} {r : ElementRecord} {x : ElementTelegram} {v : Value}
    (h : fresh (r.last x.kind) ≠ some v) :
    valueHeld s r x v =
      (s.modifyElement x.address (fun r => r.accept x.kind x.sequence v)).elementEntry r x (fresh (r.last x.kind)) v :=
  if_pos h

/-- An accepted telegram writes its record and hands the record an entry, no more (R81, R83). -/
theorem valueHeld_frame (s : State) (r : ElementRecord) (x : ElementTelegram) (v : Value) :
    (valueHeld s r x v).elements = (s.modifyElement x.address (fun r => r.accept x.kind x.sequence v)).elements
      ∧ sameBut s (valueHeld s r x v) [.elements, .record] := by
  have hwrite : sameBut s (s.modifyElement x.address (fun r => r.accept x.kind x.sequence v)) [.elements, .record] :=
    sameBut_mono (modifyElement_sameBut s _ _) (by decide)
  by_cases h : fresh (r.last x.kind) = some v
  · rw [valueHeld_of_same h]
    exact ⟨rfl, hwrite⟩
  · rw [valueHeld_of_change h]
    exact ⟨by simp [State.elementEntry], sameBut_trans hwrite (sameBut_mono (attempt_sameBut _ _) (by decide))⟩

theorem element_valueHeld {s : State} {r : ElementRecord} {x : ElementTelegram} (hr : s.element x.address = some r)
    (v : Value) : (valueHeld s r x v).element x.address = some (r.accept x.kind x.sequence v) := by
  rw [State.element, (valueHeld_frame s r x v).1]
  refine (element_modifyElement_same s _ _ fun r => accept_address r _ _ _).trans ?_
  rw [hr]
  rfl

theorem element_valueHeld_ne (s : State) (r : ElementRecord) (x : ElementTelegram) (v : Value) {b : Nat}
    (h : b ≠ x.address) : (valueHeld s r x v).element b = s.element b := by
  rw [State.element, (valueHeld_frame s r x v).1]
  exact element_modifyElement_ne s _ (fun r => accept_address r _ _ _) h

theorem covered_address (r : ElementRecord) (c : Capture) (t : Stamp) : (r.covered c t).address = r.address := by
  unfold ElementRecord.covered
  dsimp only
  split <;> rfl

/-- A status that comes while OBSERVED extends the silence deadline (R87). -/
theorem covered_of_observed {r : ElementRecord} (h : r.coverage = .observed) (c : Capture) (t : Stamp) :
    r.covered c t = { r with
      silenceDeadline := some (max (c.elapsed + r.silenceLimit * 1000)
        (r.silenceDeadline.getD (c.elapsed + r.silenceLimit * 1000))) } := by
  simp only [ElementRecord.covered, h]

/-- A status that comes otherwise makes its element OBSERVED (R87). -/
theorem covered_of_unobserved {r : ElementRecord} (h : r.coverage ≠ .observed) (c : Capture) (t : Stamp) :
    r.covered c t = { r with
      coverage := .observed, regained := some t, silenceDeadline := some (c.elapsed + r.silenceLimit * 1000) } := by
  cases hc : r.coverage with
  | observed => exact absurd hc h
  | never => simp only [ElementRecord.covered, hc]
  | lost => simp only [ElementRecord.covered, hc]

/-- Coverage moves at a status in RUN alone (R86, R87). -/
theorem coverageStep_eq (s : State) (x : ElementTelegram) :
    s.coverageStep x =
      if x.kind = .status ∧ s.service.state = .run then
        s.modifyElement x.address (fun r => r.covered x.capture (s.stampOf x.capture))
      else s := by
  cases hk : x.kind <;> simp [State.coverageStep, hk]

theorem element_coverageStep {s : State} {x : ElementTelegram} {r : ElementRecord} (hr : s.element x.address = some r) :
    (s.coverageStep x).element x.address =
      some (if x.kind = .status ∧ s.service.state = .run then r.covered x.capture (s.stampOf x.capture) else r) := by
  rw [coverageStep_eq]
  split
  · rw [element_modifyElement_same _ _ _ fun r => covered_address r _ _, hr]
    rfl
  · exact hr

/-- The coverage of an accepted telegram is a change of its own record (R86, R87). -/
theorem coverageStep_frame (s : State) (x : ElementTelegram) :
    othersSame s (s.coverageStep x) x.address ∧ sameBut s (s.coverageStep x) [.elements] := by
  rw [coverageStep_eq]
  split
  · exact ⟨fun b hb => element_modifyElement_ne s _ (fun r => covered_address r _ _) hb, modifyElement_sameBut s _ _⟩
  · exact ⟨fun _ _ => rfl, sameBut_refl s _⟩

/-! ## The hand-off (R85, R93, R113) -/

theorem acceptTelegram_eq (s : State) (r : ElementRecord) (x : ElementTelegram) (v : Value) :
    s.acceptTelegram r x v =
      if s.service.state = .run then
        ((valueHeld s r x v).coverageStep x).handOff r.mode x (fresh (r.last x.kind)) v
          (decide (fresh (r.last x.kind) ≠ some v))
      else (valueHeld s r x v).coverageStep x := by
  simp only [State.acceptTelegram, valueHeld, decide_eq_true_eq]

section
variable (s : State) (m : ElementMode) (x : ElementTelegram) (old : Option Value) (change : Prop) [Decidable change]

theorem handOff_target (k : Target) :
    s.handOff m x old (.target k) (decide change) =
      if m = .supervise ∧ change then s.pointCommand x.address k x.capture else s := by
  cases m <;> simp [State.handOff]

theorem handOff_detected (k : Detected) :
    s.handOff m x old (.detected k) (decide change) =
      if m = .supervise then s.pointStatus x.address old k (decide change) x.capture else s := by
  cases m <;> simp [State.handOff]

theorem handOff_aspect (k : Nat) (g : Option TrainTag) :
    s.handOff m x old (.aspect k g) (decide change) =
      if (m = .supervise ∨ m = .observe) ∧ change then s.signalCommand x.address k g x.capture else s := by
  cases m <;> simp [State.handOff]

theorem handOff_shown (k : Nat) (l : Lamp) :
    s.handOff m x old (.shown k l) (decide change) =
      if m = .supervise ∨ m = .observe then s.signalStatus x.address old k l (decide change) x.capture else s := by
  cases m <;> simp [State.handOff]

/-- Nothing is handed off in TEST (R85). -/
theorem handOff_of_test (v : Value) (b : Bool) : s.handOff .test x old v b = s := by
  cases v <;> rfl

end

end Sys2Proof.Laws
end

namespace Sys2Proof.Proofs

open Sys2Proof Sys2Proof.Machine Sys2Proof.Laws

/-- Settles O16: the value held and its entry, then the coverage, then the hand-off by the value's kind. -/
theorem acceptedTelegramTakesEffect : Obligations.AcceptedTelegramTakesEffect := by
  intro s x body r v hr hb hm hnew old d y t
  have hold : fresh (r.last x.kind) = old := by
    cases h : r.last x.kind <;> simp [old, h, fresh]
  have hy : r.accept x.kind x.sequence v = y := by
    cases h : x.kind <;> simp [y, h, ElementRecord.accept]
  have ht : t = s.acceptTelegram r x v := by
    refine (applyElement_of_fit hr hb).trans (if_neg ?_)
    simp [hm, isNew_iff.mpr hnew]
  obtain ⟨w, hw⟩ : ∃ w, w = valueHeld s r x v := ⟨_, rfl⟩
  have hwy : w.element x.address = some y := by rw [hw, element_valueHeld hr v, hy]
  have hwothers : othersSame s w x.address := fun b hb => hw ▸ element_valueHeld_ne s r x v hb
  have hwblocks : sameBut s w [.elements, .record] := hw ▸ (valueHeld_frame s r x v).2
  have hservice : w.service = s.service := hwblocks .service (by decide)
  have hstamp : w.stampOf x.capture = s.stampOf x.capture := by
    have htime : w.time = s.time := hwblocks .time (by decide)
    rw [State.stampOf, htime]
    rfl
  obtain ⟨hothers, hblocks⟩ := coverageStep_frame w x
  have hrecord : (w.coverageStep x).record = w.record := hblocks .record (by decide)
  have hq := element_coverageStep hwy
  rw [hservice, hstamp] at hq
  have hykeeps : y.coverage = r.coverage ∧ y.silenceDeadline = r.silenceDeadline ∧ y.silenceLimit = r.silenceLimit := by
    rw [← hy]
    cases x.kind <;> exact ⟨rfl, rfl, rfl⟩
  obtain ⟨hcoverage, hdeadline, hlimit⟩ := hykeeps
  refine ⟨_, w.coverageStep x, hq, fun b hb => (hothers b hb).trans (hwothers b hb),
    sameBut_trans hwblocks (sameBut_mono hblocks (by decide)), fun hsame => ?_, fun hchange => ?_, fun h => if_neg ?_,
    fun hk hs => ?_, fun hstay => ?_, fun hs => ?_⟩
  · rw [hrecord, hw, valueHeld_of_same (hold.trans hsame)]
    rfl
  · rw [hrecord, hw, valueHeld_of_change (hold.symm ▸ hchange), hold]
    exact record_attempt_congr (s := s) (t := s.modifyElement x.address _) rfl rfl _
  · rintro ⟨hk, hs⟩
    simp [hk, hs] at h
  · rw [if_pos ⟨hk, hs⟩]
    refine ⟨fun e ho he => ?_, fun ho hn => ?_, fun hno => ?_⟩
    · rw [covered_of_observed (hcoverage.trans ho), hlimit, hdeadline, he, Option.getD_some]
    · rw [covered_of_observed (hcoverage.trans ho), hlimit, hdeadline, hn, Option.getD_none, max_self]
    · rw [covered_of_unobserved (hcoverage ▸ hno), hlimit]
  · rw [ht, acceptTelegram_eq, ← hw]
    split
    · next hs => rw [hstay.resolve_left (by simp [hs]), handOff_of_test]
    · rfl
  · rw [acceptTelegram_eq, if_pos hs, hold, ← hw] at ht
    refine ⟨fun k hv => ?_, fun k hv => ?_, fun k g hv => ?_, fun k l hv => ?_⟩
    · rw [ht, hv, handOff_target]
    · rw [ht, hv, handOff_detected]
    · rw [ht, hv, handOff_aspect]
    · rw [ht, hv, handOff_shown]

end Sys2Proof.Proofs

section
/-! SUPPORT. The error indication, a service item at its commit, and a SERVICE telegram of wrong form as it passes. -/

namespace Sys2Proof.Laws

open Sys2Proof Sys2Proof.Machine

/-! ## The error indication (R180) -/

theorem isReadCode_iff {c : Byte} : isReadCode c = true ↔ c = 0x01 ∨ c = 0x13 ∨ c = 0x25 ∨ c = 0x30 := by
  simp [isReadCode, or_assoc]

theorem refusal_iff {r : Result} : r.refusal = true ↔ r ≠ .done ∧ r ≠ .doneClamped ∧ r ≠ .superseded := by
  cases r <;> simp [Result.refusal]

theorem indicate_of_read {c : Byte} (h : isReadCode c = true) (s : State) (r : Result) (y : Option Reason) :
    s.indicate c r y = s := if_pos h

theorem indicate_of_granted {c : Byte} {r : Result} (h : ¬ isReadCode c = true) (hr : r.granted = true) (s : State)
    (y : Option Reason) : s.indicate c r y = { s with service := { s.service with error := none } } := by
  rw [State.indicate, if_neg h, if_pos hr]

theorem indicate_of_refusal {c : Byte} {r : Result} (h : ¬ isReadCode c = true) (hr : r.refusal = true) (s : State)
    (y : Option Reason) :
    s.indicate c r y = { s with service :=
      { s.service with error := some { code := c, result := r, reason := y, stamp := s.stampOf s.capture } } } := by
  obtain ⟨hdone, hclamped, -⟩ := refusal_iff.mp hr
  have hg : ¬ r.granted = true := fun hg => (granted_iff.mp hg).elim hdone hclamped
  rw [State.indicate, if_neg h, if_neg hg, if_pos hr]

theorem indicate_of_superseded (s : State) (c : Byte) (y : Option Reason) : s.indicate c .superseded y = s := by
  simp [State.indicate, Result.granted, Result.refusal]

theorem indicate_sameBut (s : State) (c : Byte) (r : Result) (y : Option Reason) :
    sameBut s (s.indicate c r y) [.service] := by
  have hwrite : ∀ x : Service, sameBut s { s with service := x } [.service] := by
    intro x b hb
    cases b <;> simp_all [Block.same]
  unfold State.indicate
  split
  · exact sameBut_refl s _
  · split
    · exact hwrite _
    · split
      · exact hwrite _
      · exact sameBut_refl s _

/-! ## A service item at its commit (R134, R179) -/

/-- A request names another entry when it withdraws one that was loaded after its judgement and before the commit (R134;
log 52). -/
theorem namesAnother_iff {s : State} {q : Request} {judged since : Nat} :
    s.namesAnother q judged since = true ↔
      ∃ j e, q = .withdrawEntry j ∧ s.entry j = some e ∧ judged ≤ e.serial ∧ e.serial < since := by
  constructor
  · intro h
    cases q with
    | withdrawEntry j =>
      obtain ⟨e, he, hserial⟩ := (Option.any_eq_true _ _).mp h
      simp only [Bool.and_eq_true, decide_eq_true_eq] at hserial
      exact ⟨j, e, rfl, he, hserial.1, hserial.2⟩
    | _ => cases h
  · rintro ⟨j, e, rfl, he, hjudged, hsince⟩
    simp [State.namesAnother, he, hjudged, hsince]

theorem commitService_of_applied {s : State} {x : Request} {r : Result} {y : Option Reason} {c : Byte} {judged since : Nat}
    (hg : r.granted = true) (hn : ¬ (s.indicate c r y).namesAnother x judged since = true) :
    s.commitService c (some x) r y judged since = (s.indicate c r y).applyRequest x :=
  if_pos ⟨hg, Bool.eq_false_iff.mpr hn⟩

theorem commitService_of_passed {s : State} {q : Option Request} {r : Result} {y : Option Reason} {c : Byte}
    {judged since : Nat}
    (h : ∀ x, q = some x → r.granted = true → (s.indicate c r y).namesAnother x judged since = true) :
    s.commitService c q r y judged since = s.indicate c r y := by
  cases q with
  | none => rfl
  | some x => exact if_neg fun ⟨hg, hn⟩ => by simp [h x rfl hg] at hn

/-- But for ACKNOWLEDGE RECORD a request that its rule refuses changes nothing (R179). -/
theorem applyRequest_of_refused {s : State} {q : Request} (hq : ∀ n, q ≠ .acknowledgeRecord n)
    (h : ¬ (s.judge q).1.granted = true) : s.applyRequest q = s := by
  refine applyRequest_of_not_stands s q ?_
  cases q with
  | acknowledgeRecord n => exact absurd rfl (hq n)
  | _ => exact Bool.eq_false_iff.mpr h

/-! ## SERVICE telegrams of wrong form (R177, R178, R192) -/

/-- The octet that holds the result of a SERVICE telegram of wrong form: its last one where its code is unknown or its body
too short, else the one after its parameters (R192). -/
def wrongForm (o : List Byte) (k : Nat) : Prop :=
  (lengthsOf (field o 6 1) = none ∧ k = 5 + field o 4 2)
    ∨ (∃ a b, lengthsOf (field o 6 1) = some (a, b) ∧ field o 4 2 < a + 2 ∧ k = 5 + field o 4 2)
    ∨ ∃ a b, lengthsOf (field o 6 1) = some (a, b) ∧ a + 2 ≤ field o 4 2 ∧ field o 4 2 ≠ a + 2 + b ∧ k = 7 + a

theorem serviceForm_of_wrongForm {o : List Byte} {k : Nat} (hn : 0 < field o 4 2) (h : wrongForm o k) :
    serviceForm o = some { code := o.getD 6 0, resultAt := k, request := none } := by
  unfold serviceForm
  rw [if_neg hn.ne']
  obtain ⟨hl, rfl⟩ | ⟨a, b, hl, hshort, rfl⟩ | ⟨a, b, hl, hlong, hne, rfl⟩ := h
  · simp only [hl]
  · simp only [hl, hshort, if_true]
  · simp only [hl, Nat.not_lt.mpr hlong, hne, if_false]

theorem overlay_singleton (l : List Byte) (i : Nat) (b : Byte) (h : i < l.length) : overlay l i [b] = l.set i b := by
  rw [List.set_eq_take_append_cons_drop, if_pos h, overlay]
  refine (List.take_of_length_le ?_).trans ?_
  · simp only [List.length_append, List.length_take, List.length_drop, List.length_singleton]
    omega
  · simp

theorem openTelegram_of_service {s : State} {o : List Byte} (h : field o 2 1 = 0x20) (f : Frame) :
    s.openTelegram f o = s.servicePass f o := by
  simp [State.openTelegram, h, classOf]

section
variable {s : State} {f : Frame} {o : List Byte} {k : Nat}

/-- A SERVICE telegram with an empty body passes (R192). -/
theorem servicePass_of_empty (h : field o 4 2 = 0) : s.servicePass f o = f.passing o s.capture none := by
  simp [State.servicePass, serviceForm, h]

/-- A SERVICE telegram of wrong form that is handed on is answered REFUSED_ARGUMENT (R178, R192). -/
theorem servicePass_of_handsOn (hn : 0 < field o 4 2) (hk : wrongForm o k)
    (h : s.handsOn f (field o 0 2) (o.getD k 0xFF) = true) :
    s.servicePass f o = s.answerPass f o { code := o.getD 6 0, resultAt := k, request := none } := by
  simp only [State.servicePass, serviceForm_of_wrongForm hn hk, h, if_true]

theorem servicePass_of_not_handsOn (hn : 0 < field o 4 2) (hk : wrongForm o k)
    (h : ¬ s.handsOn f (field o 0 2) (o.getD k 0xFF) = true) : s.servicePass f o = f.passing o s.capture none := by
  simp only [State.servicePass, serviceForm_of_wrongForm hn hk]
  exact if_neg h

/-- The answer without a request: REFUSED_ARGUMENT in the place of the result, no more (R178, R192). -/
theorem answerPass_of_noRequest (c : Byte) (hk : k < o.length) (hw : isWhole o = true) :
    s.answerPass f o { code := c, resultAt := k, request := none } =
      { f.passing o s.capture (some (.service c none .refusedArgument none s.checker.loads)) with
        sent := o.set k 0x04, inserted := true } := by
  have hcode : overlay o k (code Result.refusedArgument.code ++ []) = o.set k 0x04 := overlay_singleton o k 0x04 hk
  simp only [State.answerPass, State.answer, State.replyOf, hcode, hw, if_true]

end

/-- A place that is missing does not read as a pending result. -/
theorem getD_pending_iff {o : List Byte} {k : Nat} : o.getD k 0xFF = 0x00 ↔ o[k]? = some 0x00 := by
  rw [List.getD_eq_getElem?_getD]
  cases o[k]? <;> simp

end Sys2Proof.Laws
end

namespace Sys2Proof.Proofs

open Sys2Proof Sys2Proof.Machine Sys2Proof.Laws

/-- Settles O51: the indication by the code and the result, the item by whether its request still applies, and the telegram of
wrong form by whether it is handed on. -/
theorem errorIndicationAndMalformedRequests : Obligations.ErrorIndicationAndMalformedRequests := by
  intro s
  refine ⟨fun c r y => ?_, fun p processed since i c q r y judged hi => ?_, fun x hx h1 h2 => ?_,
    fun dt p f o hreset hf hring hcount hmax ht hlen hkind hwhole => ?_⟩
  · simp only [← isReadCode_iff]
    refine ⟨indicate_sameBut s c r y, fun h => indicate_of_read h s r y, ?_, fun h hr => ?_, fun h h1 h2 h3 => ?_⟩
    · rintro rfl
      exact indicate_of_superseded s c y
    · rw [indicate_of_granted h (granted_iff.mpr hr)]
    · rw [indicate_of_refusal h (refusal_iff.mpr ⟨h1, h2, h3⟩)]
  · intro u t granted gone
    have ht : t = s.commitService c q r y judged since := by simp only [t, State.commitItem, hi]
    have hchecker : u.checker = s.checker := indicate_sameBut s c r y .checker (by decide)
    have hgone : ∀ x, q = some x → (u.namesAnother x judged since = true ↔ gone) := by
      rintro x rfl
      rw [namesAnother_iff]
      simp only [State.entry, hchecker, gone, Option.some.injEq]
    rw [ht]
    refine ⟨fun h => commitService_of_passed fun x hx hg => ?_, fun x hx hg hn => ?_⟩
    · refine (hgone x hx).mpr ((h.resolve_left fun hng => hng (granted_iff.mp hg)).resolve_left ?_)
      simp [hx]
    · rw [hx]
      exact commitService_of_applied (granted_iff.mpr hg) fun h => hn ((hgone x hx).mp h)
  · exact applyRequest_of_refused hx fun h => (granted_iff.mp h).elim h1 h2
  · intro n lengths
    have hf' : ((s.advance dt).port p).frame = some f := by simpa using hf
    have hparse : f.mayParse o = true := (mayParse_iff ht o).mpr ⟨hring, hcount, hmax, hlen⟩
    refine ⟨_, f.open_ ((s.advance dt).openTelegram f o), (s.advance dt).openTelegram f o,
      exec_telegramParse hreset dt p o, ?_⟩
    rw [telegramParse_of_mayParse hf' hparse, setFrame_eq]
    refine ⟨by simp, rfl, rfl, (openTelegram_received _ f o).1, ?_, ?_, by simp, setPort_sameBut _ _ _⟩
    · intro hn
      rw [openTelegram_of_service hkind, servicePass_of_empty hn]
      exact ⟨rfl, rfl, rfl⟩
    · intro k hn hform mine
      have hk : wrongForm o k := hform
      have hmine : (s.advance dt).handsOn f (field o 0 2) (o.getD k 0xFF) = true ↔ mine := by
        rw [handsOn_iff, getD_pending_iff]
        exact Iff.rfl
      rw [openTelegram_of_service hkind]
      refine ⟨fun h => ?_, fun h => ?_⟩
      · have ⟨_, _, hpending⟩ := h
        obtain ⟨hlt, -⟩ := List.getElem?_eq_some_iff.mp hpending
        rw [servicePass_of_handsOn hn hk (hmine.mpr h), answerPass_of_noRequest _ hlt (decide_eq_true hwhole)]
        refine ⟨rfl, rfl, fun c hc => ?_⟩
        rw [List.getD_eq_getElem?_getD, hc]
        rfl
      · rw [servicePass_of_not_handsOn hn hk (mt hmine.mp h)]
        exact ⟨rfl, rfl, rfl⟩

end Sys2Proof.Proofs

section
/-! SUPPORT. The deadlines of a movement: the start, the run and the settle deadline, and the history of durations. -/

namespace Sys2Proof.Laws

open Sys2Proof Sys2Proof.Machine

/-! ## The rows of a movement's deadlines (R99, R101, R103) -/

theorem exec_startDeadline {s : State} (h : s.inReset = false) (dt a : Nat) :
    exec (.startDeadline dt a) s = .next ((s.advance dt).startDeadline a) :=
  timed_of_running h dt (fun s => s.startDeadline a)

theorem exec_runDeadline {s : State} (h : s.inReset = false) (dt a : Nat) :
    exec (.runDeadline dt a) s = .next ((s.advance dt).runDeadline a) :=
  timed_of_running h dt (fun s => s.runDeadline a)

theorem exec_settleDeadline {s : State} (h : s.inReset = false) (dt a : Nat) :
    exec (.settleDeadline dt a) s = .next ((s.advance dt).settleDeadline a) :=
  timed_of_running h dt (fun s => s.settleDeadline a)

/-! ## A movement written and a movement ended (R94, R108) -/

/-- A movement ends as its entry does, and then its context goes (R94, R108). -/
theorem endMovement_eq (s : State) (a : Nat) (m : Movement) (o : MovementOutcome) (c : Capture) (d : Option Nat)
    (f : Option ActionKind) :
    s.endMovement a m o c d f = (s.note c (.movement (m.entry a o d f))).setMovement a none := note_setMovement ..

/-- A movement written changes its own record alone (R94). -/
theorem setMovement_eq {s : State} {a : Nat} {r : ElementRecord} {p : PointPart} (hr : s.element a = some r)
    (hp : r.part = .point p) (m : Option Movement) :
    (s.setMovement a m).element a = some { r with part := .point { p with movement := m } }
      ∧ othersSame s (s.setMovement a m) a ∧ sameBut s (s.setMovement a m) [.elements] :=
  ⟨by rw [element_setMovement, hr, Option.map_some, withMovement_of_point hp], fun _ hb => element_setMovement_ne s m hb,
    modifyElement_sameBut s a _⟩

/-! ## The run deadline in SETTLING and before the arrival (R101) -/

section
variable {s : State} {a : Nat} {r : ElementRecord} {p : PointPart} {m : Movement} (hr : s.element a = some r)
  (hp : r.part = .point p) (hm : p.movement = some m)
include hr hp hm

theorem runDeadline_of_settling (hc : m.phase = .settling) (hd : m.runDeadline ≤ s.time.elapsed) :
    s.runDeadline a = s.setMovement a (some { m with runPassed := true }) := by
  simp only [State.runDeadline, hr, hp, hm, hc, hd, if_true]

theorem runDeadline_eq_failedAt (hc : m.phase ≠ .settling) (hd : m.runDeadline ≤ s.time.elapsed) :
    s.runDeadline a = (failedAt s a r p m).setMovement a none :=
  (runDeadline_of_reached hr hp hm hc hd).trans (endMovement_eq ..)

/-! ## The settle deadline (R103) -/

theorem settleDeadline_of_reached {d : Nat} (hc : m.phase = .settling) (hs : m.settleDeadline = some d)
    (hd : d ≤ s.time.elapsed) : s.settleDeadline a = s.complete a p m := by
  simp only [State.settleDeadline, State.reached, hr, hp, hm, hc, hs, hd, decide_true, and_self, if_true]

theorem settleDeadline_of_unsettled (hc : m.phase ≠ .settling) : s.settleDeadline a = s := by
  simp only [State.settleDeadline, hr, hp, hm, hc, false_and, if_false]

theorem settleDeadline_of_before {d : Nat} (hs : m.settleDeadline = some d) (hd : s.time.elapsed < d) :
    s.settleDeadline a = s := by
  simp [State.settleDeadline, State.reached, hr, hp, hm, hs, hd]

end

/-! ## The history of durations (R103, R104) -/

theorem duration_of_arrival {m : Movement} {x : Dated} (h : m.arrival = some x) :
    m.duration = (x.capture.elapsed - m.command.capture.elapsed) / 1000 := by
  simp only [Movement.duration, h]

/-- A full history gives up its oldest duration for the newest (R104). -/
theorem pushDuration_of_le {h : List Nat} (hl : h.length ≤ 4) (n : Nat) :
    pushDuration h n = if h.length = 4 then h.drop 1 ++ [n] else h ++ [n] := by
  unfold pushDuration
  split
  · next hfull => rw [hfull, List.drop_append_of_le_length (by omega)]
  · next hfull => rw [show h.length + 1 - 4 = 0 by omega, List.drop_zero]

section
variable (s : State) (a : Nat) {h : List Nat} {d w : Nat} (c : Capture)

theorem judgeHistory_of_within (hd : d ≤ w) : s.judgeHistory a h d w c = s := if_neg (Nat.not_lt.mpr hd)

/-- A slow movement that ends a full history of slow ones (R104). -/
theorem judgeHistory_of_trend (hd : w < d) (hl : h.length = 4) (hall : ∀ x ∈ h, w < x) :
    s.judgeHistory a h d w c = (s.elementFault a c (.slowMovement d w)).elementFault a c (.trend h w) := by
  have hslow : h.all (fun x => decide (w < x)) = true := List.all_eq_true.mpr fun x hx => decide_eq_true (hall x hx)
  simp only [State.judgeHistory, hd, hl, hslow, and_self, if_true]

/-- A slow movement after one that was not, or in a history not yet full (R104). -/
theorem judgeHistory_of_slow (hd : w < d) (hn : h.length < 4 ∨ ∃ x ∈ h, x ≤ w) :
    s.judgeHistory a h d w c = s.elementFault a c (.slowMovement d w) := by
  refine (if_pos hd).trans (if_neg ?_)
  rintro ⟨hl, hall⟩
  obtain hl' | ⟨x, hx, hxw⟩ := hn
  · omega
  · exact absurd (of_decide_eq_true (List.all_eq_true.mp hall x hx)) (Nat.not_lt.mpr hxw)

variable (h d w)

theorem judgeHistory_modifyPoint (b : Nat) (f : PointPart → PointPart) :
    (s.modifyPoint b f).judgeHistory a h d w c = (s.judgeHistory a h d w c).modifyPoint b f := by
  have hfault : ∀ (u : State) x, (u.modifyPoint b f).elementFault a c x = (u.elementFault a c x).modifyPoint b f :=
    fun u _ => raise_modifyPoint u b f _
  unfold State.judgeHistory
  dsimp only
  rw [hfault, hfault]
  split_ifs <;> rfl

theorem judgeHistory_reported : reported a [.record, .alarms, .elements] s (s.judgeHistory a h d w c) := by
  have hslow := elementFault_reported a s c (.slowMovement d w)
  unfold State.judgeHistory
  dsimp only
  split_ifs
  · exact reported_trans hslow (elementFault_reported a _ c _)
  · exact hslow
  · exact ⟨sameElements_of_eq rfl, fun _ _ => rfl, sameBut_refl s _⟩

end

/-! ## A movement that completes (R103, R104) -/

/-- The part once a completed movement has its entry and its duration is judged (R103, R104). -/
def completionNoted (s : State) (a : Nat) (p : PointPart) (m : Movement) : State :=
  (s.note s.capture (.movement (m.entry a .complete (some m.duration) none))).judgeHistory a
    (pushDuration p.history m.duration) m.duration p.warning s.capture

/-- The entry and the faults of a completed movement come first, its context and its history last. -/
theorem complete_eq (s : State) (a : Nat) (p : PointPart) (m : Movement) :
    s.complete a p m =
      ((completionNoted s a p m).setMovement a none).modifyPoint a fun q =>
        { q with history := pushDuration p.history m.duration } := by
  unfold State.complete completionNoted
  dsimp only
  rw [endMovement_eq, judgeHistory_modifyPoint, State.setMovement, judgeHistory_modifyPoint]
  rfl

theorem completionNoted_reported (s : State) (a : Nat) (p : PointPart) (m : Movement) :
    reported a [.elements, .record, .alarms] s (completionNoted s a p m) :=
  reported_trans (reported_mono (note_reported a s _ _) (by decide))
    (reported_mono (judgeHistory_reported _ a _ _ _ _) (by decide))

/-- A completed movement: its record but for the latch, those at other addresses, and the other blocks (R103, R104). -/
theorem complete_keeps {s : State} {a : Nat} {r : ElementRecord} {p : PointPart} (hr : s.element a = some r)
    (hp : r.part = .point p) (m : Movement) :
    (∃ q, (s.complete a p m).element a = some q
      ∧ q.unlatched = { r.unlatched with
          part := .point { p with movement := none, history := pushDuration p.history m.duration } })
    ∧ othersSame s (s.complete a p m) a ∧ sameBut s (s.complete a p m) [.elements, .record, .alarms] := by
  obtain ⟨⟨q, hq, hqr⟩, ho, hb⟩ :=
    setMovement_of_reported (completionNoted_reported s a p m) (by decide) hr hp none
  have haddress : ∀ x, (ElementRecord.mapPoint x fun q => { q with history := pushDuration p.history m.duration }).address
      = x.address := fun x => mapPoint_address x _
  rw [complete_eq]
  refine ⟨⟨_, by rw [State.modifyPoint, element_modifyElement_same _ a _ haddress, hq]; rfl, ?_⟩, fun b hne => ?_,
    sameBut_trans hb (sameBut_mono (modifyElement_sameBut _ a _) (by decide))⟩
  · exact (latch_mapPoint q _ none).trans (congrArg (ElementRecord.mapPoint · _) hqr)
  · exact (element_modifyElement_ne _ _ haddress hne).trans (ho b hne)

end Sys2Proof.Laws
end

namespace Sys2Proof.Proofs

open Sys2Proof Sys2Proof.Machine Sys2Proof.Laws

/-- Settles O33: the start deadline raises its fault and then writes the phase; the run deadline by whether the movement is in
SETTLING. -/
theorem startAndRunDeadlines : Obligations.StartAndRunDeadlines := by
  refine ⟨fun s dt a r p m hreset hr hp hm hc hd => ?_, fun s dt a r p m hreset hr hp hm hd => ?_⟩
  · have hr' : (s.advance dt).element a = some r := hr
    obtain ⟨⟨q, hq, hqr⟩, ho, hb⟩ := setMovement_of_reported
      (elementFault_reported a (s.advance dt) (s.advance dt).capture (startFault p m)) (by decide) hr' hp
      (some { m with phase := .moving })
    refine ⟨_, q, exec_startDeadline hreset dt a, ?_⟩
    rw [startDeadline_of_reached hr' hp hm hc hd]
    exact ⟨hq, hqr, rfl, ho, sameBut_mono hb (by decide)⟩
  · have hr' : (s.advance dt).element a = some r := hr
    by_cases hc : m.phase = .settling
    · obtain ⟨hq, ho, hb⟩ := setMovement_eq hr' hp (some { m with runPassed := true })
      refine ⟨_, { r with part := .point { p with movement := some { m with runPassed := true } } },
        exec_runDeadline hreset dt a, ?_⟩
      rw [runDeadline_of_settling hr' hp hm hc hd]
      exact ⟨hq, ho, sameBut_mono hb (by decide), fun _ => ⟨rfl, rfl, rfl⟩, fun h => absurd hc h⟩
    · obtain ⟨⟨q, hq, hqr⟩, ho, hb⟩ :=
        setMovement_of_reported (failedAt_reported (s.advance dt) a r p m) (by decide) hr' hp none
      refine ⟨_, q, exec_runDeadline hreset dt a, ?_⟩
      rw [runDeadline_eq_failedAt hr' hp hm hc hd]
      exact ⟨hq, ho, sameBut_mono hb (by decide), fun h => absurd h hc, fun _ => ⟨hqr, rfl⟩⟩

/-- Settles O35: the record and the frame of a completed movement, and its entries by its duration and its history. -/
theorem settleDeadlineCompletes : Obligations.SettleDeadlineCompletes := by
  intro s dt a d r p m x hreset hr hp hm hc hx hs hd hl n h
  have hr' : (s.advance dt).element a = some r := hr
  have hn : m.duration = n := duration_of_arrival hx
  have hh : pushDuration p.history m.duration = h := by rw [hn]; exact pushDuration_of_le hl n
  obtain ⟨⟨q, hq, hqr⟩, ho, hb⟩ := complete_keeps hr' hp m
  have hrecord : ((s.advance dt).complete a p m).record = (completionNoted (s.advance dt) a p m).record := by
    rw [complete_eq]
    rfl
  have halarms : ((s.advance dt).complete a p m).alarms = (completionNoted (s.advance dt) a p m).alarms := by
    rw [complete_eq]
    rfl
  rw [hh] at hqr
  rw [completionNoted, hh, hn] at hrecord halarms
  refine ⟨_, q, exec_settleDeadline hreset dt a, ?_⟩
  rw [settleDeadline_of_reached hr' hp hm hc hs hd]
  refine ⟨hq, hqr, fun hw => ?_, fun hw => ⟨fun hfull hall => ?_, fun hsome => ?_⟩, ho, hb⟩
  · rw [judgeHistory_of_within _ a _ hw] at hrecord halarms
    exact ⟨hrecord, by simpa using halarms⟩
  · rw [hrecord, judgeHistory_of_trend _ a _ hw hfull hall]
  · rw [hrecord, judgeHistory_of_slow _ a _ hw hsome]

end Sys2Proof.Proofs

section
/-! SUPPORT. A point's statuses: while IDLE, in COMMANDED and MOVING, and in SETTLING. -/

namespace Sys2Proof.Laws

open Sys2Proof Sys2Proof.Machine

/-! ## Statuses while IDLE (R105, R106) -/

theorem commandedTarget_eq_some_iff {r : ElementRecord} {x : Target} :
    r.commandedTarget = some x ↔ fresh r.lastCommand = some (.target x) := by
  unfold ElementRecord.commandedTarget
  cases fresh r.lastCommand with
  | none => simp
  | some v => cases v <;> simp

section
variable (s : State) (r : ElementRecord) (change : Bool) (c : Capture)

/-- The position is lost after one that was shown (R105). -/
theorem idleStatus_of_lost {v : Value} (h : v ≠ .detected .none) :
    s.idleStatus r (some v) .none change c = s.elementFault r.address c (.detectionLost v) := by
  cases v with
  | detected d =>
    cases d with
    | none => exact absurd rfl h
    | _ => rfl
  | _ => rfl

theorem idleStatus_of_unseen {old : Option Value} (h : old = none ∨ old = some (.detected .none)) :
    s.idleStatus r old .none change c = s := by
  obtain rfl | rfl := h <;> rfl

variable {r c}

/-- A position is shown, and a target is commanded (R106). -/
theorem idleStatus_of_commanded {shown : Detected} (h : shown ≠ .none) (old : Option Value) {x : Target}
    (hx : r.commandedTarget = some x) :
    s.idleStatus r old shown change c =
      if change = true ∧ shown ≠ x.detected then s.elementFault r.address c (.uncommandedMove x shown old) else s := by
  unfold State.idleStatus
  rw [hx]
  cases shown with
  | none => exact absurd rfl h
  | _ => rfl

theorem idleStatus_of_uncommanded {shown : Detected} (h : shown ≠ .none) (old : Option Value)
    (hx : r.commandedTarget = none) : s.idleStatus r old shown change c = s := by
  unfold State.idleStatus
  rw [hx]
  cases shown with
  | none => exact absurd rfl h
  | _ => rfl

variable {change}

/-- A position that does not change, or is the one commanded, is expected (R106). -/
theorem idleStatus_of_expected {shown : Detected} (h : shown ≠ .none) (old : Option Value)
    (hexpected : change = false ∨ ∀ x, fresh r.lastCommand = some (.target x) → shown = x.detected) :
    s.idleStatus r old shown change c = s := by
  cases hx : r.commandedTarget with
  | none => exact idleStatus_of_uncommanded s change h old hx
  | some x =>
    rw [idleStatus_of_commanded s change h old hx, if_neg]
    rintro ⟨hchange, hne⟩
    obtain hsame | hsame := hexpected
    · exact Bool.false_ne_true (hsame.symm.trans hchange)
    · exact hne (hsame x (commandedTarget_eq_some_iff.mp hx))

end

/-! ## Statuses during a movement (R98, R100, R102, R110) -/

theorem detected_ne_none (x : Target) : x.detected ≠ .none := by cases x <;> decide

section
variable (s : State) (r : ElementRecord) (p : PointPart) {m : Movement} (c : Capture)

/-- The point leaves its position (R98). -/
theorem movementStatus_of_leave (hc : m.phase = .commanded) :
    s.movementStatus r p m .none c = s.moveOn r.address { m with phase := .moving, leave := some (s.dated c) } := by
  simp only [State.movementStatus, hc, Movement.commandedStatus, if_true]

theorem movementStatus_of_absent (hc : m.phase = .moving) :
    s.movementStatus r p m .none c =
      s.moveOn r.address { m with leave := if m.leave.isSome then m.leave else some (s.dated c) } := by
  simp only [State.movementStatus, hc, Movement.movingStatus, if_true]

/-- The point arrives, from COMMANDED or MOVING (R98, R100). -/
theorem movementStatus_of_arrival (hc : m.phase ≠ .settling) :
    s.movementStatus r p m m.target.detected c = s.moveOn r.address (m.arrive (s.dated c) p.settleTime) := by
  have hne := detected_ne_none m.target
  cases hphase : m.phase with
  | settling => exact absurd hphase hc
  | commanded => simp only [State.movementStatus, hphase, Movement.commandedStatus, hne, if_true, if_false]
  | moving => simp only [State.movementStatus, hphase, Movement.movingStatus, hne, if_true, if_false]

theorem movementStatus_of_elsewhere (hc : m.phase ≠ .settling) {shown : Detected} (hn : shown ≠ .none)
    (ht : shown ≠ m.target.detected) : s.movementStatus r p m shown c = s.moveOn r.address m := by
  cases hphase : m.phase with
  | settling => exact absurd hphase hc
  | commanded => simp only [State.movementStatus, hphase, Movement.commandedStatus, hn, ht, if_false]
  | moving => simp only [State.movementStatus, hphase, Movement.movingStatus, hn, ht, if_false]

theorem movementStatus_of_settling (hc : m.phase = .settling) (shown : Detected) :
    s.movementStatus r p m shown c = s.settlingStatus r p m shown c := by
  simp only [State.movementStatus, hc]

end

section
variable {s : State} {a : Nat} {r : ElementRecord} {p : PointPart} (hr : s.element a = some r) (hp : r.part = .point p)
include hr hp

theorem moveOn_of_unsettled {m : Movement} (hc : m.phase ≠ .settling) : s.moveOn a m = s.setMovement a (some m) :=
  settleDeadline_of_unsettled (element_moved hr hp m) rfl rfl hc

/-- A settle deadline that is ahead waits (R98, R100, R110). -/
theorem moveOn_of_before {m : Movement} {d : Nat} (hs : m.settleDeadline = some d) (hd : s.time.elapsed < d) :
    s.moveOn a m = s.setMovement a (some m) :=
  settleDeadline_of_before (element_moved hr hp m) rfl rfl hs hd

end

/-! ## Statuses in SETTLING (R101, R102) -/

/-- The part once a movement that bounced too often has failed (R102, R108). -/
def chatterNoted (s : State) (a : Nat) (p : PointPart) (m : Movement) (c : Capture) : State :=
  (s.elementFault a c (.chatter m.target m.bounced.bounces p.maxBounces)).note c
    (.movement (m.bounced.entry a .failed none (some .chatter)))

theorem chatterNoted_reported (s : State) (a : Nat) (p : PointPart) (m : Movement) (c : Capture) :
    reported a [.record, .alarms, .elements] s (chatterNoted s a p m c) :=
  reported_trans (elementFault_reported a s _ _) (reported_mono (note_reported a _ _ _) (by decide))

section
variable (s : State) (r : ElementRecord) {p : PointPart} {m : Movement} {shown : Detected} (c : Capture)

theorem settlingStatus_of_target (h : shown = m.target.detected) : s.settlingStatus r p m shown c = s := if_pos h

variable (h : shown ≠ m.target.detected)
include h

theorem settlingStatus_of_chatter (hb : p.maxBounces < m.bounces + 1) :
    s.settlingStatus r p m shown c = (chatterNoted s r.address p m c).setMovement r.address none :=
  (if_neg h).trans ((if_pos hb).trans (endMovement_eq ..))

/-- A bounce within the limit goes back to MOVING, unless its run deadline has passed (R101, R102). -/
theorem settlingStatus_of_bounce (hb : m.bounces + 1 ≤ p.maxBounces) (hrun : m.runPassed = false) :
    s.settlingStatus r p m shown c = s.setMovement r.address (some m.bounced) := by
  refine (if_neg h).trans ((if_neg (Nat.not_lt.mpr hb)).trans (if_neg ?_))
  rw [hrun]
  exact Bool.false_ne_true

theorem settlingStatus_of_passed (hb : m.bounces + 1 ≤ p.maxBounces) (hrun : m.runPassed = true) :
    s.settlingStatus r p m shown c = (failedAt s r.address r p m.bounced).setMovement r.address none :=
  (if_neg h).trans ((if_neg (Nat.not_lt.mpr hb)).trans ((if_pos hrun).trans (endMovement_eq ..)))

end

/-! ## An accepted status (R98 to R106) -/

section
variable {s : State} {a : Nat} {r : ElementRecord} {p : PointPart} (hr : s.element a = some r) (hp : r.part = .point p)
  (old : Option Value) (shown : Detected) (change : Bool) {c : Capture}
include hr hp

theorem pointStatus_of_idle (hm : p.movement = none) :
    s.pointStatus a old shown change c = s.idleStatus r old shown change c := by
  simp only [State.pointStatus, hr, hp, hm]

/-- A status captured before the command is passed over (R98). -/
theorem pointStatus_of_early {m : Movement} (hm : p.movement = some m) (h : c.elapsed < m.command.capture.elapsed) :
    s.pointStatus a old shown change c = s := by
  simp only [State.pointStatus, hr, hp, hm, h, if_true]

theorem pointStatus_of_movement {m : Movement} (hm : p.movement = some m) (h : m.command.capture.elapsed ≤ c.elapsed) :
    s.pointStatus a old shown change c = s.movementStatus r p m shown c := by
  simp only [State.pointStatus, hr, hp, hm, Nat.not_lt.mpr h, if_false]

end

end Sys2Proof.Laws
end

namespace Sys2Proof.Proofs

open Sys2Proof Sys2Proof.Machine Sys2Proof.Laws

/-- Settles O27: by whether a movement is in progress, and then by its phase and the position shown; each outcome is a fault, a
movement written, or the entries and faults of a movement that ends. -/
theorem pointStatusIsJudged : Obligations.PointStatusIsJudged := by
  intro s a r p old shown change c hr hp t now position becomes ends
  obtain rfl : r.address = a := element_address hr
  have hposition : position = Target.detected := funext fun x => by cases x <;> rfl
  clear_value position
  subst hposition
  have hbecomes : ∀ k, t = s.setMovement r.address (some k) → becomes k := fun k h => by
    simp only [becomes, h]
    exact setMovement_eq hr hp (some k)
  have hends : ∀ e, reported r.address [.record, .alarms, .elements] s e → t = e.setMovement r.address none → ends e := by
    intro e he h
    obtain ⟨⟨q, hq, hqr⟩, ho, hb⟩ := setMovement_of_reported he (by decide) hr hp none
    simp only [ends, h]
    exact ⟨q, hq, hqr, rfl, ho, sameBut_mono hb (by decide)⟩
  refine ⟨fun hm => ?_, fun m hm => ⟨fun hearly => ?_, fun hlate => ?_⟩⟩
  · have ht : t = s.idleStatus r old shown change c := pointStatus_of_idle hr hp old shown change hm
    rw [ht]
    refine ⟨?_, fun hshown => ⟨fun x hx hchange hne => ?_, fun hexpected => ?_⟩⟩
    · rintro rfl
      refine ⟨?_, idleStatus_of_unseen s r change c⟩
      rintro v rfl hv
      exact idleStatus_of_lost s r change c hv
    · rw [idleStatus_of_commanded s change hshown old (commandedTarget_eq_some_iff.mpr hx), if_pos ⟨hchange, hne⟩]
    · exact idleStatus_of_expected s hshown old hexpected
  · exact pointStatus_of_early hr hp old shown change hm hearly
  · intro settle arrived
    have ht : t = s.movementStatus r p m shown c := pointStatus_of_movement hr hp old shown change hm hlate
    have hsettling : m.phase = .settling → t = s.settlingStatus r p m shown c := fun hc =>
      ht.trans (movementStatus_of_settling s r p c hc shown)
    have harrival : m.phase ≠ .settling → shown = m.target.detected → t = s.moveOn r.address arrived := fun hc h => by
      rw [ht, h, movementStatus_of_arrival s r p c hc]
      rfl
    refine ⟨fun hc h => hbecomes _ ?_, fun hc h => hbecomes _ ?_, fun hc h hd => hbecomes _ ?_, fun hc h _ => harrival hc h,
      fun hc hn h => hbecomes _ ?_, fun hc h => ?_, fun hc h => ?_⟩
    · rw [ht, h, movementStatus_of_leave s r p c hc]
      exact moveOn_of_unsettled hr hp (by simp)
    · rw [ht, h, movementStatus_of_absent s r p c hc]
      exact moveOn_of_unsettled hr hp (by simp [hc])
    · exact (harrival hc h).trans (moveOn_of_before hr hp rfl hd)
    · rw [ht, movementStatus_of_elsewhere s r p c hc hn h]
      exact moveOn_of_unsettled hr hp hc
    · exact (hsettling hc).trans (settlingStatus_of_target s r c h)
    · intro back
      refine ⟨fun hb => hends _ (chatterNoted_reported s _ p m c) ?_, fun hb hrun => hbecomes _ ?_,
        fun hb hrun => hends _ (failedAt_reported s _ r p m.bounced) ?_⟩
      · exact (hsettling hc).trans (settlingStatus_of_chatter s r c h hb)
      · exact (hsettling hc).trans (settlingStatus_of_bounce s r c h hb hrun)
      · exact (hsettling hc).trans (settlingStatus_of_passed s r c h hb hrun)

end Sys2Proof.Proofs

section
/-! SUPPORT. Leaving RUN and RESTART: the entries of the movements that they abandon, and what they leave. -/

namespace Sys2Proof.Laws

open Sys2Proof Sys2Proof.Machine

/-! ## The movements abandoned (R107, R182) -/

theorem abandon_sameBut (s : State) (a : Nat) : sameBut s (s.abandon a) [.elements, .record] := by
  cases hr : s.element a with
  | none =>
    have hs : s.abandon a = s := by simp only [State.abandon, hr, Option.bind_none]
    rw [hs]
    exact sameBut_refl s _
  | some r => exact (abandon_eq hr).2.2

theorem abandon_grows (s : State) (a : Nat) : recordGrows s (s.abandon a) := by
  unfold State.abandon
  split
  · rw [endMovement_eq]
    exact note_grows s _ _ _
  · exact recordGrows_of_eq rfl

theorem foldl_abandon_grows (l : List Nat) (s : State) : recordGrows s (l.foldl State.abandon s) := by
  induction l generalizing s with
  | nil => exact recordGrows_of_eq rfl
  | cons a l ih => exact recordGrows_trans (abandon_grows s a) (ih _)

/-- The ABANDONED entries of the movements in progress, in the order of the records (R107, R182). -/
def abandonedEntries (l : List ElementRecord) : List EntryBody :=
  l.filterMap fun r => r.movement.map fun m => .movement (m.entry r.address .abandoned none none)

/-- One record's movement abandoned: the record of entries is as if its entry alone had been formed (R107). -/
theorem record_abandon_congr {s t : State} {r : ElementRecord} (hr : t.element r.address = some r)
    (hrecord : t.record = s.record) (htime : t.time = s.time) {c : Capture} (hc : t.capture = c) :
    (t.abandon r.address).record = ((abandonedEntries [r]).foldl (fun v b => v.note c b) s).record := by
  cases hm : r.movement with
  | none =>
    rw [abandon_of_none hr hm]
    simpa [abandonedEntries, hm] using hrecord
  | some m =>
    rw [abandon_of_movement hr hm, hc]
    simpa [abandonedEntries, hm] using record_note_of_eq hrecord htime c _ false

theorem foldl_note_time (c : Capture) (l : List EntryBody) (s : State) :
    (l.foldl (fun v b => v.note c b) s).time = s.time := foldl_same State.time _ (by simp) l s

/-- Records of different addresses: the entries are those of the movements in progress, one by one (R107). -/
theorem record_foldl_abandon (c : Capture) (l : List ElementRecord) {s t : State} (hl : keyed ElementRecord.address l)
    (ht : ∀ r ∈ l, t.element r.address = some r) (hrecord : t.record = s.record) (htime : t.time = s.time)
    (hc : t.capture = c) :
    ((l.map (·.address)).foldl State.abandon t).record
      = ((abandonedEntries l).foldl (fun v b => v.note c b) s).record := by
  induction l generalizing s t with
  | nil => exact hrecord
  | cons r l ih =>
    obtain ⟨hfirst, hrest⟩ := List.pairwise_cons.mp hl
    have hr := ht r List.mem_cons_self
    obtain ⟨-, hothers, hblocks⟩ := abandon_eq hr
    have htime' : (t.abandon r.address).time = t.time := hblocks .time (by decide)
    have hsplit : abandonedEntries (r :: l) = abandonedEntries [r] ++ abandonedEntries l :=
      List.filterMap_append (l := [r]) (l' := l)
    rw [hsplit, List.foldl_append]
    refine ih hrest (fun q hq => ?_) (record_abandon_congr hr hrecord htime hc) ?_ ((capture_eq htime').trans hc)
    · rw [hothers _ (hfirst q hq).ne']
      exact ht q (List.mem_cons_of_mem r hq)
    · rw [htime', htime, foldl_note_time]

/-! ## Leaving RUN (R72, R107, R182) -/

/-- The part in CONFIG with the STATE_CHANGE entry of leaving RUN, its movements not yet abandoned (R182). -/
def leaveNoted (s : State) (x : Cause) : State :=
  State.note { s with service := { s.service with state := .config } } s.capture (.stateChange s.service.state .config x)

theorem leaveRun_record (s : State) (x : Cause) :
    (s.leaveRun x).record = ((s.elements.map (·.address)).foldl State.abandon (leaveNoted s x)).record := by
  have helements : (leaveNoted s x).elements = s.elements := by simp [leaveNoted]
  rw [← helements]
  rfl

theorem leaveNoted_record (s : State) (x : Cause) :
    (leaveNoted s x).record = (s.note s.capture (.stateChange s.service.state .config x)).record :=
  record_note_of_eq (s := s) (t := { s with service := { s.service with state := .config } }) rfl rfl _ _ _

theorem leaveRun_grows (s : State) (x : Cause) :
    recordGrows (s.note s.capture (.stateChange s.service.state .config x)) (s.leaveRun x) := by
  obtain ⟨l, hl⟩ := foldl_abandon_grows (s.elements.map (·.address)) (leaveNoted s x)
  exact ⟨l, by rw [leaveRun_record, hl, leaveNoted_record]⟩

/-- The entries of leaving RUN: the STATE_CHANGE entry, then the ABANDONED entries in ascending order of address (R107,
R182). -/
theorem leaveRun_record_of_tablesOk {s : State} (h : s.TablesOk) (x : Cause) :
    (s.leaveRun x).record = ((abandonedEntries s.elements).foldl (fun v b => v.note s.capture b)
      (s.note s.capture (.stateChange s.service.state .config x))).record := by
  rw [leaveRun_record]
  refine record_foldl_abandon s.capture s.elements (keyed_of_tablesOk h).1 (fun r hr => ?_) (leaveNoted_record s x)
    (by simp [leaveNoted]) (capture_eq (by simp [leaveNoted]))
  have helement : (leaveNoted s x).element r.address = s.element r.address := by simp [State.element, leaveNoted]
  exact helement.trans ((element_eq_some_iff h).mpr ⟨hr, rfl⟩)

/-- Leaving RUN changes the operating state, the element table and the record alone (R72, R182). -/
theorem leaveRun_leaves (s : State) (x : Cause) :
    (s.leaveRun x).service = { s.service with state := .config }
      ∧ sameBut s (s.leaveRun x) [.elements, .service, .record] := by
  have hfold := foldl_sameBut abandon_sameBut ((leaveNoted s x).elements.map (·.address)) (leaveNoted s x)
  have hservice : (leaveNoted s x).service = { s.service with state := .config } := by simp [leaveNoted]
  have hnoted : sameBut s (leaveNoted s x) [.elements, .service, .record] := by
    intro b hb
    cases b <;> simp_all [Block.same, leaveNoted]
  have hcleared : sameBut (((leaveNoted s x).elements.map (·.address)).foldl State.abandon (leaveNoted s x)) (s.leaveRun x)
      [.elements] := by
    intro b hb
    cases b with
    | elements => exact absurd List.mem_cons_self hb
    | _ => rfl
  have hleave := sameBut_trans hfold (sameBut_mono hcleared (by decide))
  exact ⟨(hleave .service (by decide)).trans hservice, sameBut_trans hnoted (sameBut_mono hleave (by decide))⟩

/-! ## RESTART (R107, R161, R163, R185) -/

/-- The part once a restart has formed its entries, before it clears the tables (R185, steps 1 and 2). -/
def restartNoted (s : State) : State :=
  if s.service.state = .run then (s.note s.capture (.stateRestart s.service.state) true).leaveRun .restart
  else s.note s.capture (.stateRestart s.service.state) true

theorem restartNoted_of_config {s : State} (h : s.service.state = .config) :
    restartNoted s = s.note s.capture (.stateRestart s.service.state) true := by
  rw [restartNoted, h]
  rfl

theorem restartNoted_of_run {s : State} (h : s.service.state = .run) :
    restartNoted s = (s.note s.capture (.stateRestart s.service.state) true).leaveRun .restart := if_pos h

/-- The entries of a restart leave every block but the record, and in RUN the operating state and the element table. -/
theorem restartNoted_leaves (s : State) :
    (restartNoted s).service = { s.service with state := .config }
      ∧ sameBut s (restartNoted s) [.elements, .service, .record] ∧ recordGrows s (restartNoted s) := by
  have hnote := note_sameBut s s.capture (.stateRestart s.service.state) true
  have hgrows := note_grows s s.capture (.stateRestart s.service.state) true
  cases hs : s.service.state with
  | config =>
    rw [restartNoted_of_config hs]
    refine ⟨(hnote .service (by decide)).trans ?_, sameBut_mono hnote (by decide), hgrows⟩
    rw [← hs]
  | run =>
    obtain ⟨hservice, hblocks⟩ := leaveRun_leaves (s.note s.capture (.stateRestart s.service.state) true) .restart
    have hkept : (s.note s.capture (.stateRestart s.service.state) true).service = s.service := hnote .service (by decide)
    rw [restartNoted_of_run hs]
    exact ⟨by rw [hservice, hkept], sameBut_trans (sameBut_mono hnote (by decide)) hblocks,
      recordGrows_trans hgrows (recordGrows_trans (note_grows _ _ _ _) (leaveRun_grows _ _))⟩

/-- A restart is granted in both operating states (R185). -/
theorem applyRequest_restart (s : State) : s.applyRequest .restart = (restartNoted s).clearTables := rfl

theorem clearTables_sameBut (s : State) : sameBut s s.clearTables [.elements, .checker, .alarms, .service] := by
  intro b hb
  cases b <;> simp_all [Block.same, State.clearTables]

/-- What a restart clears and keeps of the blocks that it writes, from the state before it (R161, R185; log 52). -/
theorem applyRequest_restart_keeps (s : State) :
    (s.applyRequest .restart).checker = { Checker.powerOn with loads := s.checker.loads }
      ∧ (s.applyRequest .restart).alarms =
        { s.alarms with actions := defaultActions, output := (s.applyRequest .restart).anyLatch }
      ∧ (s.applyRequest .restart).service = { s.service with state := .config, error := none }
      ∧ sameBut s (s.applyRequest .restart) [.elements, .checker, .alarms, .service, .record] := by
  obtain ⟨hservice, hblocks, -⟩ := restartNoted_leaves s
  have hchecker : (restartNoted s).checker = s.checker := hblocks .checker (by decide)
  have halarms : (restartNoted s).alarms = s.alarms := hblocks .alarms (by decide)
  refine ⟨?_, ?_, ?_, sameBut_trans (sameBut_mono hblocks (by decide)) (sameBut_mono (clearTables_sameBut _) (by decide))⟩
  · rw [applyRequest_restart, ← hchecker]
    rfl
  · rw [applyRequest_restart, ← halarms]
    rfl
  · have hcleared : (restartNoted s).clearTables.service = { (restartNoted s).service with state := .config, error := none } :=
      rfl
    rw [applyRequest_restart, hcleared, hservice]

/-- The record that a restart leaves is the one its entries make (R185). -/
theorem applyRequest_restart_record (s : State) : (s.applyRequest .restart).record = (restartNoted s).record := rfl

/-- POWER_ON gives the default actions and a checker with nothing loaded (R146, R157, R187). -/
theorem powerOn_defaults {s t : State} {b : Byte} (h : exec (.powerOn b) s = .next t) :
    t.alarms.actions = defaultActions ∧ t.checker = .powerOn := by
  cases h
  exact ⟨rfl, rfl⟩

/-- From RUN the entries of a restart are the RESTART entry and those of leaving RUN with cause RESTART (R182, R185). -/
theorem restartNoted_record_of_run {s : State} (h : s.service.state = .run) :
    recordGrows ((s.note s.capture (.stateRestart .run) true).note s.capture (.stateChange .run .config .restart))
        (restartNoted s)
      ∧ (s.TablesOk → (restartNoted s).record = ((abandonedEntries s.elements).foldl (fun v b => v.note s.capture b)
          ((s.note s.capture (.stateRestart .run) true).note s.capture (.stateChange .run .config .restart))).record) := by
  rw [restartNoted_of_run h, h]
  have hnote := note_sameBut s s.capture (.stateRestart .run) true
  have htables : s.TablesOk → (s.note s.capture (.stateRestart .run) true).TablesOk := tablesOk_congr (note_tableView ..)
  generalize s.note s.capture (.stateRestart .run) true = u at hnote htables
  have hcapture : u.capture = s.capture := capture_eq (hnote .time (by decide))
  have hstate : u.service.state = .run := (congrArg Service.state (hnote .service (by decide))).trans h
  have helements : u.elements = s.elements := hnote .elements (by decide)
  rw [← hcapture, ← hstate, ← helements]
  exact ⟨leaveRun_grows u .restart, fun k => leaveRun_record_of_tablesOk (htables k) .restart⟩

end Sys2Proof.Laws
end

namespace Sys2Proof.Proofs

open Sys2Proof Sys2Proof.Machine Sys2Proof.Laws

/-- Settles O48: the entries by the operating state, and then the tables cleared from the state that the entries leave. -/
theorem restartCommitClears : Obligations.RestartCommitClears := by
  intro s t ended u
  obtain ⟨hchecker, halarms, hservice, hblocks⟩ := applyRequest_restart_keeps s
  refine ⟨fun hs => ?_, fun hs => ?_, rfl, hchecker, rfl, by rw [hservice], fun b v hv => ?_, by rw [hservice],
    by rw [hservice], by rw [hservice], by rw [halarms], by rw [halarms], by rw [halarms], by rw [halarms], by rw [halarms],
    rfl, ?_, hblocks⟩
  · rw [applyRequest_restart_record, restartNoted_of_config hs]
  · have hu : u = s.note s.capture (.stateRestart .run) true := by rw [← hs]
    rw [hu]
    exact restartNoted_record_of_run hs
  · obtain ⟨hactions, hpowered⟩ := powerOn_defaults hv
    refine ⟨fun k => ?_, ?_⟩
    · rw [State.actionOf, State.actionOf, hactions]
      rfl
    · rw [hpowered]
      exact hchecker
  · exact (restartNoted_leaves s).2.2

end Sys2Proof.Proofs

section
/-! SUPPORT. A signal's contexts: what a change of them leaves, a command and the confirm deadline that it sets. -/

namespace Sys2Proof.Laws

open Sys2Proof Sys2Proof.Machine

/-! ## The signal fields of a record (R114) -/

theorem mapSignal_of_signal {r : ElementRecord} {g : SignalPart} (hg : r.part = .signal g) (f : SignalPart → SignalPart) :
    r.mapSignal f = { r with part := .signal (f g) } := by
  simp only [ElementRecord.mapSignal, hg]

theorem mapSignal_keeps (r : ElementRecord) (f : SignalPart → SignalPart) :
    (r.mapSignal f).address = r.address ∧ (r.mapSignal f).latched = r.latched := by
  unfold ElementRecord.mapSignal
  cases r.part <;> exact ⟨rfl, rfl⟩

theorem unlatched_mapSignal (r : ElementRecord) (f : SignalPart → SignalPart) :
    (r.mapSignal f).unlatched = r.unlatched.mapSignal f := by
  unfold ElementRecord.mapSignal
  cases hp : r.part <;> simp [ElementRecord.unlatched, hp]

theorem mapSignal_mapSignal (r : ElementRecord) (f h : SignalPart → SignalPart) :
    (r.mapSignal f).mapSignal h = r.mapSignal (h ∘ f) := by
  unfold ElementRecord.mapSignal
  cases hp : r.part <;> simp [hp]

/-- Two changes of the signal fields are one. -/
theorem modifySignal_modifySignal (s : State) (a : Nat) (f h : SignalPart → SignalPart) :
    (s.modifySignal a f).modifySignal a h = s.modifySignal a (h ∘ f) := by
  simp only [State.modifySignal, State.modifyElement, List.map_map]
  congr 1
  refine List.map_congr_left fun r _ => ?_
  by_cases hr : r.address = a
  · simp only [Function.comp_apply, if_pos hr]
    rw [if_pos ((mapSignal_keeps r f).1.trans hr), mapSignal_mapSignal]
  · simp only [Function.comp_apply, if_neg hr]

/-- A change of the signal fields leaves the records at other addresses and the other blocks. -/
theorem modifySignal_frame (s : State) (a : Nat) (f : SignalPart → SignalPart) :
    othersSame s (s.modifySignal a f) a ∧ sameBut s (s.modifySignal a f) [.elements] :=
  ⟨fun _ hb => element_modifyElement_ne s _ (fun r => (mapSignal_keeps r f).1) hb, modifyElement_sameBut s a _⟩

theorem element_modifySignal {s : State} {a : Nat} {r : ElementRecord} {g : SignalPart} (hr : s.element a = some r)
    (hg : r.part = .signal g) (f : SignalPart → SignalPart) :
    (s.modifySignal a f).element a = some { r with part := .signal (f g) } := by
  rw [State.modifySignal, element_modifyElement_same s a _ fun r => (mapSignal_keeps r f).1, hr, Option.map_some,
    mapSignal_of_signal hg]

/-- Signal fields changed after a report on the element: the record at the address, but for its latch. -/
theorem element_modifySignal_of_sameElements {s t : State} {a : Nat} {r : ElementRecord} {g : SignalPart}
    (h : sameElements s t) (hr : s.element a = some r) (hg : r.part = .signal g) (f : SignalPart → SignalPart) :
    ∃ q, (t.modifySignal a f).element a = some q ∧ q.unlatched = { r.unlatched with part := .signal (f g) } := by
  have hsame := element_of_sameElements h a
  rw [hr, Option.map_some, Option.map_eq_some_iff] at hsame
  obtain ⟨q, hq, hqr⟩ := hsame
  refine ⟨q.mapSignal f, ?_, ?_⟩
  · rw [State.modifySignal, element_modifyElement_same t a _ fun r => (mapSignal_keeps r f).1, hq, Option.map_some]
  · rw [unlatched_mapSignal, hqr]
    exact mapSignal_of_signal (r := r.unlatched) hg f

/-! ## The confirm deadline while it waits (R119) -/

section
variable {s : State} {a : Nat} {r : ElementRecord} {g : SignalPart} (hr : s.element a = some r) (hg : r.part = .signal g)
include hr hg

theorem confirmDeadline_of_none (hk : g.confirmation = none) : s.confirmDeadline a = s := by
  simp only [State.confirmDeadline, hr, hg, hk]

theorem confirmDeadline_of_before {k : Confirmation} (hk : g.confirmation = some k) (hd : s.time.elapsed < k.deadline) :
    s.confirmDeadline a = s := by
  simp only [State.confirmDeadline, hr, hg, hk, Nat.not_le.mpr hd, and_false, if_false]

end

/-! ## A command (R115, R123) -/

/-- The confirmation pending that a proceed command sets (R115). -/
def pendingOf (g : SignalPart) (aspect : Nat) (tag : Option TrainTag) (d : Dated) : Confirmation :=
  { aspect := aspect, tag := tag, command := d, deadline := d.capture.elapsed + g.confirmLimit * 1000, overdue := false }

theorem commanded_of_stop (g : SignalPart) (tag : Option TrainTag) (d : Dated) :
    g.commanded 0 tag d = { g with confirmation := none } := if_pos rfl

theorem commanded_of_proceed {aspect : Nat} (h : aspect ≠ 0) (g : SignalPart) (tag : Option TrainTag) (d : Dated) :
    g.commanded aspect tag d =
      { g with
        confirmation := some (pendingOf g aspect tag d)
        clearedFor := if tag.isSome then g.clearedFor else none } := if_neg h

theorem confirmation_of_proceed {aspect : Nat} (h : aspect ≠ 0) (g : SignalPart) (tag : Option TrainTag) (d : Dated) :
    (g.commanded aspect tag d).confirmation = some (pendingOf g aspect tag d) := by
  rw [commanded_of_proceed h]

/-- The contexts once a command has set a confirmation and its deadline has been taken (R115, R119). -/
def commandedOverdue (k : Confirmation) (g : SignalPart) : SignalPart :=
  { g.commanded k.aspect k.tag k.command with confirmation := some { k with overdue := true } }

theorem commandedOverdue_of_proceed {aspect : Nat} (h : aspect ≠ 0) (g : SignalPart) (tag : Option TrainTag) (d : Dated) :
    commandedOverdue (pendingOf g aspect tag d) g =
      { g with
        confirmation := some { pendingOf g aspect tag d with overdue := true }
        clearedFor := if tag.isSome then g.clearedFor else none } := by
  rw [commandedOverdue, pendingOf, commanded_of_proceed h]

theorem modifySignal_overdue (s : State) (a : Nat) (k : Confirmation) :
    (s.modifySignal a fun g => g.commanded k.aspect k.tag k.command).modifyElement a (overdue k) =
      s.modifySignal a (commandedOverdue k) := modifySignal_modifySignal ..

section
variable {s : State} {a : Nat} {r : ElementRecord} {g : SignalPart} (hr : s.element a = some r) (hg : r.part = .signal g)
  (tag : Option TrainTag) (c : Capture)
include hr hg

theorem signalCommand_of_stop :
    s.signalCommand a 0 tag c = s.modifySignal a fun g => g.commanded 0 tag (s.dated c) :=
  confirmDeadline_of_none (element_modifySignal hr hg _) rfl (by rw [commanded_of_stop])

variable {aspect : Nat} (h : aspect ≠ 0)
include h

/-- A confirm deadline that is ahead waits (R115). -/
theorem signalCommand_of_before (hd : s.time.elapsed < c.elapsed + g.confirmLimit * 1000) :
    s.signalCommand a aspect tag c = s.modifySignal a fun g => g.commanded aspect tag (s.dated c) :=
  confirmDeadline_of_before (element_modifySignal hr hg _) rfl (confirmation_of_proceed h g tag (s.dated c)) hd

variable (hd : c.elapsed + g.confirmLimit * 1000 ≤ s.time.elapsed)
include hd

/-- A confirm deadline already reached is taken with the command, with its fault in SUPERVISE (R119, R123). -/
theorem signalCommand_of_supervised (hm : r.mode = .supervise) :
    s.signalCommand a aspect tag c =
      (s.modifySignal a (commandedOverdue (pendingOf g aspect tag (s.dated c)))).elementFault a s.capture
        (.aspectNotShown aspect tag g.confirmLimit (s.stampOf c) (fresh r.lastStatus)) := by
  have hk := confirmation_of_proceed h g tag (s.dated c)
  have hlimit : (g.commanded aspect tag (s.dated c)).confirmLimit = g.confirmLimit := by rw [commanded_of_proceed h]
  refine (confirmDeadline_of_supervised (element_modifySignal hr hg _) rfl hk rfl hd hm).trans ?_
  rw [hlimit, ← modifySignal_overdue]
  rfl

theorem signalCommand_of_unsupervised (hm : r.mode ≠ .supervise) :
    s.signalCommand a aspect tag c = s.modifySignal a (commandedOverdue (pendingOf g aspect tag (s.dated c))) := by
  have hk := confirmation_of_proceed h g tag (s.dated c)
  exact (confirmDeadline_of_unsupervised (element_modifySignal hr hg _) rfl hk rfl hd hm).trans
    (modifySignal_overdue s a (pendingOf g aspect tag (s.dated c)))

end

end Sys2Proof.Laws
end

namespace Sys2Proof.Proofs

open Sys2Proof Sys2Proof.Machine Sys2Proof.Laws

/-- Settles O36: by whether the command is STOP, and then by whether the confirm deadline that it sets is already reached. -/
theorem signalCommandSetsConfirmation : Obligations.SignalCommandSetsConfirmation := by
  intro s a r g k tag c hr hg t e next
  have hframe := modifySignal_frame s a
  have hset := element_modifySignal hr hg fun g => g.commanded k tag (s.dated c)
  refine ⟨fun hk => ?_, fun hk hd => ?_, fun hk hd => ?_⟩
  · subst hk
    rw [commanded_of_stop] at hset
    simp only [t, signalCommand_of_stop hr hg]
    exact ⟨hset, hframe _⟩
  · rw [commanded_of_proceed hk] at hset
    simp only [t, signalCommand_of_before hr hg tag c hk hd]
    exact ⟨hset, hframe _⟩
  · let f := commandedOverdue (pendingOf g k tag (s.dated c))
    have hnext : ElementPart.signal (f g) = next true := congrArg ElementPart.signal (commandedOverdue_of_proceed hk g tag _)
    by_cases hm : r.mode = .supervise
    · obtain ⟨⟨q, hq, hqr⟩, hrecord, hothers, hblocks⟩ := elementFault_modifyElement hr (fun r => mapSignal_keeps r f)
        s.capture (.aspectNotShown k tag g.confirmLimit (s.stampOf c) (fresh r.lastStatus)) false
      rw [mapSignal_of_signal hg, hnext] at hqr
      simp only [t, signalCommand_of_supervised hr hg tag c hk hd hm]
      exact ⟨q, hq, hqr, fun _ => hrecord, fun h => absurd hm h, hothers, hblocks⟩
    · obtain ⟨hothers, hblocks⟩ := hframe f
      have hq := element_modifySignal hr hg f
      rw [hnext] at hq
      simp only [t, signalCommand_of_unsupervised hr hg tag c hk hd hm]
      exact ⟨_, hq, rfl, fun h => absurd h hm, fun _ => ⟨rfl, rfl⟩, hothers, sameBut_mono hblocks (by decide)⟩

end Sys2Proof.Proofs

section
/-! SUPPORT. A signal's statuses: the faults that they raise, and the train that they clear or pass. -/

namespace Sys2Proof.Laws

open Sys2Proof Sys2Proof.Machine

theorem reported_refl (a : Nat) (l : List Block) (s : State) : reported a l s s :=
  ⟨sameElements_of_eq rfl, fun _ _ => rfl, sameBut_refl s l⟩

/-! ## LAMP_DARK (R121) -/

theorem lampWentDark_iff {old : Option Value} {lamp : Lamp} :
    lampWentDark old lamp = true ↔ lamp = .dark ∧ (old = none ∨ ∃ k, old = some (.shown k .proven)) := by
  cases lamp with
  | proven => simp [lampWentDark]
  | dark =>
    cases old with
    | none => simp [lampWentDark]
    | some v =>
      cases v with
      | shown k l => cases l <;> simp [lampWentDark]
      | _ => simp [lampWentDark]

/-- The part once the lamp of a status is judged (R121). -/
def lampJudged (s : State) (r : ElementRecord) (old : Option Value) (shown : Nat) (lamp : Lamp) (c : Capture) : State :=
  if r.mode = .supervise then s.judgeLamp r old shown lamp c else s

section
variable (s : State) (r : ElementRecord) (old : Option Value) (shown : Nat) (lamp : Lamp) (c : Capture)

theorem lampJudged_reported : reported r.address [.record, .alarms, .elements] s (lampJudged s r old shown lamp c) := by
  unfold lampJudged State.judgeLamp
  split_ifs
  · exact elementFault_reported r.address s c _
  · exact reported_refl _ _ s
  · exact reported_refl _ _ s

variable {s old lamp}

theorem lampJudged_of_dark (hm : r.mode = .supervise) (h : lampWentDark old lamp = true) :
    lampJudged s r old shown lamp c = s.elementFault r.address c (.lampDark shown r.commandedAspect) :=
  (if_pos hm).trans (if_pos h)

theorem lampJudged_of_not_dark (h : ¬ (r.mode = .supervise ∧ lampWentDark old lamp = true)) :
    lampJudged s r old shown lamp c = s := by
  unfold lampJudged State.judgeLamp
  split_ifs with hm hl
  · exact absurd ⟨hm, hl⟩ h
  · rfl
  · rfl

end

/-! ## SIGNAL_DROPPED (R120) -/

/-- A signal falls to STOP from an aspect while another is commanded (R120). -/
def falls (r : ElementRecord) (old : Option Value) (shown : Nat) (change : Bool) (p k : Nat) : Prop :=
  r.mode = .supervise ∧ change = true ∧ shown = 0 ∧ (∃ l, old = some (.shown p l)) ∧ r.commandedAspect = some k ∧ 1 ≤ p
    ∧ 1 ≤ k

/-- The part once the fall of a status is judged (R120). -/
def dropJudged (s : State) (r : ElementRecord) (g : SignalPart) (old : Option Value) (shown : Nat) (change : Bool)
    (c : Capture) : State :=
  if r.mode = .supervise then s.judgeDrop r g old shown change c else s

section
variable (s : State) {r : ElementRecord} (g : SignalPart) {old : Option Value} {shown : Nat} {change : Bool} (c : Capture)

theorem dropJudged_of_falls {p k : Nat} (h : falls r old shown change p k) :
    dropJudged s r g old shown change c = s.elementFault r.address c (.signalDropped p k g.clearedFor) := by
  obtain ⟨hm, hchange, hshown, ⟨l, rfl⟩, hk, hp, hk1⟩ := h
  simp only [dropJudged, State.judgeDrop, hm, hk, hchange, hshown, hp, hk1, and_self, if_true]

theorem dropJudged_of_not_falls (h : ∀ p k, ¬ falls r old shown change p k) :
    dropJudged s r g old shown change c = s := by
  unfold dropJudged State.judgeDrop
  split
  · next hm =>
    split
    · next p l k hk => exact if_neg fun ⟨hchange, hshown, hp, hk1⟩ => h p k ⟨hm, hchange, hshown, ⟨l, rfl⟩, hk, hp, hk1⟩
    · rfl
  · rfl

theorem dropJudged_reported :
    reported r.address [.record, .alarms, .elements] s (dropJudged s r g old shown change c) := by
  by_cases h : ∃ p k, falls r old shown change p k
  · obtain ⟨p, k, h⟩ := h
    rw [dropJudged_of_falls s g c h]
    exact elementFault_reported r.address s c _
  · rw [dropJudged_of_not_falls s g c fun p k hf => h ⟨p, k, hf⟩]
    exact reported_refl _ _ s

end

/-! ## Train events (R113, R117, R118) -/

section
variable (s : State) (a : Nat) {g : SignalPart} (x : TrainTag) (k : CheckKind) (c : Capture)

theorem giveTrainEvent_of_point (h : g.timetablePoint = true) :
    s.giveTrainEvent a g x k c = s.trainEvent { train := x, element := a, check := k, stamp := s.stampOf c } := if_pos h

theorem giveTrainEvent_of_no_point (h : g.timetablePoint = false) : s.giveTrainEvent a g x k c = s :=
  if_neg (by simp [h])

end

/-! ## A confirmation (R116, R117) -/

theorem confirmedBy_iff {k : Confirmation} {shown : Nat} {lamp : Lamp} {c : Capture} :
    k.confirmedBy shown lamp c = true ↔ shown = k.aspect ∧ lamp = .proven ∧ k.command.capture.elapsed ≤ c.elapsed := by
  simp [Confirmation.confirmedBy, and_assoc]

/-- What a confirmation does to the contexts of a signal with given contexts (R116, R117). -/
def confirmedContexts (g : SignalPart) (k : Confirmation) (h : SignalPart) : SignalPart :=
  if k.tag = none ∨ k.tag = g.clearedFor then { h with confirmation := none }
  else { h with confirmation := none, clearedFor := k.tag }

theorem confirmedContexts_self (g : SignalPart) (k : Confirmation) :
    confirmedContexts g k g =
      { g with confirmation := none, clearedFor := if k.tag.isSome then k.tag else g.clearedFor } := by
  unfold confirmedContexts
  split
  · next h =>
    obtain h | h := h
    · simp [h]
    · simp [h]
  · next h =>
    obtain ⟨hnone, -⟩ := not_or.mp h
    simp [Option.isSome_iff_ne_none.mpr hnone]

section
variable (s : State) (a : Nat) {g : SignalPart} {k : Confirmation} (c : Capture)

/-- A confirmation that is untagged, or for the train already cleared (R117). -/
theorem confirm_of_kept (h : k.tag = none ∨ k.tag = g.clearedFor) :
    s.confirm a g k c = s.modifySignal a (confirmedContexts g k) := by
  have hcontexts : confirmedContexts g k = fun h => { h with confirmation := none } := funext fun _ => if_pos h
  rw [hcontexts]
  cases hk : k.tag with
  | none => simp only [State.confirm, hk]
  | some x =>
    have hx : g.clearedFor = some x := by
      rw [← hk]
      exact (h.resolve_left (by simp [hk])).symm
    simp only [State.confirm, hk, hx, if_true]

/-- A confirmation for a train not yet cleared (R117). -/
theorem confirm_of_new {x : TrainTag} (hx : k.tag = some x) (hn : g.clearedFor ≠ some x) :
    s.confirm a g k c = (s.modifySignal a (confirmedContexts g k)).giveTrainEvent a g x .cleared c := by
  have hcontexts : confirmedContexts g k = fun h => { h with confirmation := none, clearedFor := some x } :=
    funext fun _ => (if_neg (by simp [hx, hn.symm])).trans (by rw [hx])
  rw [hcontexts]
  simp only [State.confirm, hx, hn, if_false, modifySignal_modifySignal]
  rfl

/-- A confirmation that gives no train event (R113, R117). -/
theorem confirm_of_no_event (h : k.tag = none ∨ k.tag = g.clearedFor ∨ g.timetablePoint = false) :
    s.confirm a g k c = s.modifySignal a (confirmedContexts g k) := by
  by_cases hkept : k.tag = none ∨ k.tag = g.clearedFor
  · exact confirm_of_kept s a c hkept
  · obtain ⟨hnone, hother⟩ := not_or.mp hkept
    obtain ⟨x, hx⟩ := Option.ne_none_iff_exists'.mp hnone
    have hp : g.timetablePoint = false := (h.resolve_left hnone).resolve_left hother
    rw [confirm_of_new s a c hx fun hc => hother (hx.trans hc.symm), giveTrainEvent_of_no_point _ a x _ c hp]

end

/-! ## The train that a status clears or passes (R116, R118) -/

section
variable (s : State) {r : ElementRecord} {g : SignalPart} {shown : Nat} {lamp : Lamp} {c : Capture}

theorem judgeTrain_of_confirmed {k : Confirmation} (hk : g.confirmation = some k) (h : k.confirmedBy shown lamp c = true) :
    s.judgeTrain r g shown lamp c = s.confirm r.address g k c := by
  simp only [State.judgeTrain, hk, h, if_true]

variable (h : ∀ k, g.confirmation = some k → ¬ k.confirmedBy shown lamp c = true)
include h

/-- STOP is shown after a STOP command (R118). -/
theorem judgeTrain_of_passed {x : TrainTag} (hx : g.clearedFor = some x) (hshown : shown = 0)
    (hk : r.commandedAspect = some 0) : s.judgeTrain r g shown lamp c = s.pass r.address g x c := by
  cases hg : g.confirmation with
  | none => simp only [State.judgeTrain, hg, hx, hshown, hk, and_self, if_true]
  | some k =>
    subst hshown
    simp only [State.judgeTrain, hg, hx, hk, h k hg, Bool.false_eq_true, and_self, if_true, if_false]

/-- No train has been cleared, or the status does not pass it (R118). -/
theorem judgeTrain_of_kept (hkept : g.clearedFor = none ∨ shown ≠ 0 ∨ r.commandedAspect ≠ some 0) :
    s.judgeTrain r g shown lamp c = s := by
  have hstays : g.clearedFor ≠ none → ¬ (shown = 0 ∧ r.commandedAspect = some 0) := fun hx ⟨hshown, hk⟩ =>
    (hkept.resolve_left hx).elim (· hshown) (· hk)
  unfold State.judgeTrain
  split
  · next k hg =>
    refine (if_neg (h k hg)).trans ?_
    split
    · next x hx => exact if_neg (hstays (by simp [hx]))
    · rfl
  · next x hx => exact if_neg (hstays (by simp [hx]))
  · rfl

end

/-! ## An accepted status (R116 to R122) -/

theorem signalStatus_eq {s : State} {a : Nat} {r : ElementRecord} {g : SignalPart} (hr : s.element a = some r)
    (hg : r.part = .signal g) (old : Option Value) (shown : Nat) (lamp : Lamp) (change : Bool) (c : Capture) :
    s.signalStatus a old shown lamp change c =
      (dropJudged (lampJudged s r old shown lamp c) r g old shown change c).judgeTrain r g shown lamp c := by
  simp only [State.signalStatus, hr, hg, dropJudged, lampJudged]
  split_ifs <;> rfl

end Sys2Proof.Laws
end

namespace Sys2Proof.Proofs

open Sys2Proof Sys2Proof.Machine Sys2Proof.Laws

/-- Settles O34: the lamp is judged first, then the fall, and then the train, by whether the status confirms. -/
theorem signalStatusIsJudged : Obligations.SignalStatusIsJudged := by
  intro s a r g old shown lamp change c hr hg t commanded dark dropped confirms confirmed event
  obtain rfl : r.address = a := element_address hr
  have hcommanded : commanded = r.commandedAspect := rfl
  have ht : t = _ := signalStatus_eq hr hg old shown lamp change c
  have hdark : dark ↔ r.mode = .supervise ∧ lampWentDark old lamp = true := and_congr_right' lampWentDark_iff.symm
  have hconfirms : ∀ k, confirms k ↔ g.confirmation = some k ∧ k.confirmedBy shown lamp c = true :=
    fun k => and_congr_right' confirmedBy_iff.symm
  let u := lampJudged s r old shown lamp c
  let w := dropJudged u r g old shown change c
  have hw : reported r.address [.record, .alarms, .elements] s w :=
    reported_trans (lampJudged_reported s r old shown lamp c) (dropJudged_reported u g c)
  have hstamp : w.stampOf c = s.stampOf c := by
    have htime : w.time = s.time := hw.2.2 .time (by decide)
    simp only [State.stampOf, htime]
  have hframe := modifySignal_frame w r.address
  have hrecord := element_modifySignal_of_sameElements hw.1 hr hg
  refine ⟨u, w, fun h => ?_, fun h => ?_, fun p k h => dropJudged_of_falls u g c h,
    fun h => dropJudged_of_not_falls u g c h, fun k hk => ?_, fun hno => ?_⟩
  · obtain ⟨hm, hl⟩ := hdark.mp h
    exact lampJudged_of_dark r shown c hm hl
  · exact lampJudged_of_not_dark r shown c (mt hdark.mpr h)
  · obtain ⟨hpending, hconfirmed⟩ := (hconfirms k).mp hk
    have htrain : t = w.confirm r.address g k c := ht.trans (judgeTrain_of_confirmed w hpending hconfirmed)
    obtain ⟨q, hq, hqr⟩ := hrecord (confirmedContexts g k)
    rw [confirmedContexts_self] at hqr
    obtain ⟨hothers, hblocks⟩ := hframe (confirmedContexts g k)
    refine ⟨_, q, hq, hothers, hblocks, hqr, fun h => ?_, fun x hx hn hp => ?_⟩
    · exact htrain.trans (confirm_of_no_event w _ c h)
    · rw [htrain, confirm_of_new w _ c hx hn, giveTrainEvent_of_point _ _ x _ c hp]
      simp only [event, ← hstamp]
      rfl
  · have hnone : ∀ k, g.confirmation = some k → ¬ k.confirmedBy shown lamp c = true :=
      fun k hk h => hno k ((hconfirms k).mpr ⟨hk, h⟩)
    refine ⟨fun x hx hshown hk => ?_, fun hkept => ht.trans (judgeTrain_of_kept w hnone hkept)⟩
    have htrain : t = w.pass r.address g x c := ht.trans (judgeTrain_of_passed w hnone hx hshown hk)
    obtain ⟨q, hq, hqr⟩ := hrecord fun g => { g with clearedFor := none }
    obtain ⟨hothers, hblocks⟩ := hframe fun g => { g with clearedFor := none }
    refine ⟨_, q, hq, hothers, hblocks, hqr, fun hp => ?_, fun hp => ?_⟩
    · exact htrain.trans (giveTrainEvent_of_no_point _ _ x _ c hp)
    · rw [htrain, State.pass, giveTrainEvent_of_point _ _ x _ c hp]
      simp only [event, ← hstamp]
      rfl

end Sys2Proof.Proofs

section
/-! SUPPORT. What every operation of the part leaves of the timetable checker but its entries: its tags, its schedule, its
drain end and its settings (R125, R127, R128). -/

namespace Sys2Proof.Laws

open Sys2Proof Sys2Proof.Machine

/-! ## The checker without its entries -/

/-- A checker without its entries: tags, schedule, drain end, settings and count of loads. -/
def storeless (k : Checker) : Checker := { k with store := [] }

theorem storeless_eq_iff {k l : Checker} :
    storeless k = storeless l ↔ k.tagA = l.tagA ∧ k.tagB = l.tagB ∧ k.schedule = l.schedule ∧ k.drainEnd = l.drainEnd
      ∧ k.lead = l.lead ∧ k.grace = l.grace ∧ k.loads = l.loads := by
  simp [storeless]

theorem checker_of_sameBut {s t : State} {l : List Block} (h : sameBut s t l) (hl : Block.checker ∉ l := by decide) :
    t.checker = s.checker := h .checker hl

/-! ## Timetable entries (R139 to R143) -/

@[simp] theorem modifyEntry_storeless (s : State) (i : Nat) (f : TimetableEntry → TimetableEntry) :
    storeless (s.modifyEntry i f).checker = storeless s.checker := rfl

@[simp] theorem withdraw_storeless (s : State) (e : TimetableEntry) (r : WithdrawReason) :
    storeless (s.withdraw e r).checker = storeless s.checker := by
  simp [State.withdraw]

@[simp] theorem trainEvent_storeless (s : State) (v : TrainEvent) :
    storeless (s.trainEvent v).checker = storeless s.checker := by
  unfold State.trainEvent
  dsimp only
  split <;> simp

@[simp] theorem expireEntry_storeless (s : State) (e : TimetableEntry) :
    storeless (s.expireEntry e).checker = storeless s.checker := by
  unfold State.expireEntry
  split <;> simp

@[simp] theorem expireDue_storeless (s : State) : storeless s.expireDue.checker = storeless s.checker := by
  unfold State.expireDue
  split
  · exact foldl_same (fun u => storeless u.checker) _ expireEntry_storeless _ s
  · rfl

/-! ## Time base and reference selector (spec/01, spec/02) -/

@[simp] theorem settleQuality_storeless (s : State) : storeless s.settleQuality.checker = storeless s.checker := by
  unfold State.settleQuality
  dsimp only
  split <;> simp

@[simp] theorem settledFrom_storeless (s t : State) : storeless (settledFrom s t).checker = storeless t.checker := by
  unfold settledFrom
  split <;> simp

@[simp] theorem evalSelection_checker (s : State) (c : Bool) : (s.evalSelection c).checker = s.checker :=
  checker_of_sameBut (evalSelection_sameBut s c)

@[simp] theorem badMark_storeless (s : State) (x : Source) : storeless (s.badMark x).checker = storeless s.checker := by
  simp [badMark_eq]

@[simp] theorem holdoverSecond_storeless (s : State) : storeless s.holdoverSecond.checker = storeless s.checker := by
  unfold State.holdoverSecond
  split
  · split <;> simp
  · rfl

@[simp] theorem scaleEndHold_storeless (s : State) : storeless s.scaleEndHold.checker = storeless s.checker := by
  unfold State.scaleEndHold
  split <;> simp

@[simp] theorem secondMarkStart_checker (s : State) : s.secondMarkStart.checker = s.checker := by
  unfold State.secondMarkStart
  split
  · split <;> rfl
  · rfl

@[simp] theorem secondMarkFall_checker (s : State) : s.secondMarkFall.checker = s.checker := by
  unfold State.secondMarkFall
  split <;> rfl

@[simp] theorem setLocalOffset_checker (s : State) (o : Option Int) (i : Option Instant) :
    (s.setLocalOffset o i).checker = s.checker := by
  unfold State.setLocalOffset
  split <;> simp

@[simp] theorem markStages_checker (s : State) (m : AcceptedMark) : (s.markStages m).1.checker = s.checker := by
  have moved : ∀ (u : State) (e : Int), (u.moveCentre e).checker = u.checker :=
    fun u e => checker_of_sameBut (moveCentre_sameBut u e)
  obtain h | h | ⟨t, h⟩ := markStages_cases s m <;> rw [h]
  · simp [State.firstSet, moved]
  · simp [State.step_, moved]

@[simp] theorem completeMessage_checker (s : State) (w : Wired) (o : List Byte) :
    (s.completeMessage w o).checker = s.checker := checker_of_sameBut (completeMessage_sameBut s w o)

@[simp] theorem referenceMessage_checker (s : State) (w : Wired) (o : List Byte) :
    (s.referenceMessage w o).checker = s.checker := by
  unfold State.referenceMessage
  split <;> simp

@[simp] theorem messageOctet_checker (s : State) (w : Wired) (b : Byte) : (s.messageOctet w b).checker = s.checker := by
  unfold State.messageOctet
  split
  · dsimp only
    generalize (if s.octetLate w = true then [] else (s.wired w).collected) = held
    split
    · simp
    · split <;> simp
  · rfl

@[simp] theorem octetTimeout_checker (s : State) (w : Wired) : (s.octetTimeout w).checker = s.checker := by
  unfold State.octetTimeout State.dropPartial
  split <;> simp

@[simp] theorem leadingEdge_storeless (s : State) (w : Wired) :
    storeless (s.leadingEdge w).checker = storeless s.checker := by
  unfold State.leadingEdge
  split
  · rfl
  · split
    · dsimp only
      split <;> simp
    · simp

@[simp] theorem markDeadline_storeless (s : State) (x : Source) :
    storeless (s.markDeadline x).checker = storeless s.checker := by
  unfold State.markDeadline
  split
  · split <;> simp
  · rfl

@[simp] theorem forgetRing_checker (s : State) (x : Source) : (s.forgetRing x).checker = s.checker := by
  cases x <;> rfl

@[simp] theorem absenceDeadline_storeless (s : State) (x : Source) :
    storeless (s.absenceDeadline x).checker = storeless s.checker := by
  unfold State.absenceDeadline State.becomeAbsent
  split
  · dsimp only
    split <;> simp
  · rfl

@[simp] theorem revertInstant_storeless (s : State) (x : Source) :
    storeless (s.revertInstant x).checker = storeless s.checker := by
  have selected : (s.select x .revert).checker = s.checker := checker_of_sameBut (select_sameBut s x .revert)
  unfold State.revertInstant
  split <;> simp [selected]

@[simp] theorem setTimeConfig_storeless (s : State) (p : TimeConfigParams) :
    storeless (s.setTimeConfig p).checker = storeless s.checker := by
  simp [State.setTimeConfig]

/-! ## Supervision and the element table (spec/04 to spec/07) -/

@[simp] theorem startDeadline_checker (s : State) (a : Nat) : (s.startDeadline a).checker = s.checker := by
  unfold State.startDeadline
  split
  · split
    · split
      · split <;> simp
      · rfl
    · rfl
  · rfl

@[simp] theorem failToDetect_checker (s : State) (r : ElementRecord) (p : PointPart) (m : Movement) (c : Capture) :
    (s.failToDetect r p m c).checker = s.checker := by
  simp [State.failToDetect]

@[simp] theorem runDeadline_checker (s : State) (a : Nat) : (s.runDeadline a).checker = s.checker := by
  unfold State.runDeadline
  split
  · split
    · split
      · split
        · split <;> simp
        · rfl
      · rfl
    · rfl
  · rfl

@[simp] theorem judgeHistory_checker (s : State) (a : Nat) (h : List Nat) (d w : Nat) (c : Capture) :
    (s.judgeHistory a h d w c).checker = s.checker := by
  unfold State.judgeHistory
  dsimp only
  split
  · split <;> simp
  · rfl

@[simp] theorem modifyPoint_checker (s : State) (a : Nat) (f : PointPart → PointPart) :
    (s.modifyPoint a f).checker = s.checker := rfl

@[simp] theorem modifySignal_checker (s : State) (a : Nat) (f : SignalPart → SignalPart) :
    (s.modifySignal a f).checker = s.checker := rfl

@[simp] theorem settleDeadline_checker (s : State) (a : Nat) : (s.settleDeadline a).checker = s.checker := by
  unfold State.settleDeadline State.complete
  split
  · split
    · split
      · split <;> simp
      · rfl
    · rfl
  · rfl

@[simp] theorem takeReached_checker (s : State) (a : Nat) : (s.takeReached a).checker = s.checker := by
  unfold State.takeReached
  split
  · dsimp only
    split <;> simp
  · simp

@[simp] theorem pointCommand_checker (s : State) (a : Nat) (t : Target) (c : Capture) :
    (s.pointCommand a t c).checker = s.checker := by
  have reversed : ∀ p, (s.reverse a p c).checker = s.checker := by
    intro p
    unfold State.reverse
    split <;> simp
  unfold State.pointCommand
  split
  · split
    · dsimp only
      split <;> simp [reversed]
    · rfl
  · rfl

@[simp] theorem settlingStatus_checker (s : State) (r : ElementRecord) (p : PointPart) (m : Movement) (d : Detected)
    (c : Capture) : (s.settlingStatus r p m d c).checker = s.checker := by
  unfold State.settlingStatus
  split
  · rfl
  · split
    · simp
    · split <;> simp

@[simp] theorem pointStatus_checker (s : State) (a : Nat) (v : Option Value) (d : Detected) (h : Bool) (c : Capture) :
    (s.pointStatus a v d h c).checker = s.checker := by
  have moving : ∀ r p m, (s.movementStatus r p m d c).checker = s.checker := by
    intro r p m
    unfold State.movementStatus State.moveOn
    split <;> simp
  have idle : ∀ r, (s.idleStatus r v d h c).checker = s.checker := by
    intro r
    unfold State.idleStatus
    split
    · rfl
    · simp
    · rfl
    · split <;> simp
    · rfl
  unfold State.pointStatus
  split
  · split
    · split
      · split <;> simp [moving]
      · exact idle _
    · rfl
  · rfl

@[simp] theorem confirmDeadline_checker (s : State) (a : Nat) : (s.confirmDeadline a).checker = s.checker := by
  unfold State.confirmDeadline
  split
  · split
    · split
      · split
        · dsimp only
          split <;> simp
        · rfl
      · rfl
    · rfl
  · rfl

@[simp] theorem signalCommand_checker (s : State) (a k : Nat) (t : Option TrainTag) (c : Capture) :
    (s.signalCommand a k t c).checker = s.checker := by
  simp [State.signalCommand]

@[simp] theorem giveTrainEvent_storeless (s : State) (a : Nat) (g : SignalPart) (t : TrainTag) (k : CheckKind)
    (c : Capture) : storeless (s.giveTrainEvent a g t k c).checker = storeless s.checker := by
  unfold State.giveTrainEvent
  split <;> simp

@[simp] theorem judgeTrain_storeless (s : State) (r : ElementRecord) (g : SignalPart) (n : Nat) (l : Lamp)
    (c : Capture) : storeless (s.judgeTrain r g n l c).checker = storeless s.checker := by
  have confirmed : ∀ k, storeless (s.confirm r.address g k c).checker = storeless s.checker := by
    intro k
    unfold State.confirm
    dsimp only
    split
    · split <;> simp
    · simp
  have passed : ∀ t, storeless (s.pass r.address g t c).checker = storeless s.checker := by
    intro t
    simp [State.pass]
  unfold State.judgeTrain
  split
  · split
    · exact confirmed _
    · split
      · split <;> simp [passed]
      · rfl
  · split <;> simp [passed]
  · rfl

@[simp] theorem signalStatus_storeless (s : State) (a : Nat) (v : Option Value) (n : Nat) (l : Lamp) (h : Bool)
    (c : Capture) : storeless (s.signalStatus a v n l h c).checker = storeless s.checker := by
  have lamp : ∀ r, (s.judgeLamp r v n l c).checker = s.checker := by
    intro r
    unfold State.judgeLamp
    split <;> simp
  have drop : ∀ (u : State) r g, (u.judgeDrop r g v n h c).checker = u.checker := by
    intro u r g
    unfold State.judgeDrop
    split
    · split <;> simp
    · rfl
  unfold State.signalStatus
  split
  · split
    · dsimp only
      rw [judgeTrain_storeless]
      split <;> simp [lamp, drop]
    · rfl
  · rfl

@[simp] theorem handOff_storeless (s : State) (m : ElementMode) (t : ElementTelegram) (old : Option Value) (v : Value)
    (h : Bool) : storeless (s.handOff m t old v h).checker = storeless s.checker := by
  unfold State.handOff
  split
  · split <;> simp
  · simp
  · split <;> simp
  · simp
  · split <;> simp
  · simp
  · rfl

@[simp] theorem silenceDeadline_checker (s : State) (a : Nat) : (s.silenceDeadline a).checker = s.checker := by
  unfold State.silenceDeadline
  split
  · split <;> simp
  · rfl

@[simp] theorem applyElement_storeless (s : State) (t : ElementTelegram) (b : List Byte) :
    storeless (s.applyElement t b).checker = storeless s.checker := by
  have covered : ∀ u : State, (u.coverageStep t).checker = u.checker := by
    intro u
    unfold State.coverageStep
    split
    · rfl
    · split <;> rfl
  have accepted : ∀ r v, storeless (s.acceptTelegram r t v).checker = storeless s.checker := by
    intro r v
    unfold State.acceptTelegram State.elementEntry
    dsimp only
    split <;> split <;> simp [covered]
  unfold State.applyElement
  split
  · rfl
  · split
    · rfl
    · split
      · rfl
      · exact accepted _ _

@[simp] theorem abandon_checker (s : State) (a : Nat) : (s.abandon a).checker = s.checker := by
  unfold State.abandon
  split <;> simp

/-! ## Clock lines and ring ports (spec/03, spec/10) -/

@[simp] theorem senseShort_checker (s : State) (l : LineId) : (s.senseShort l).checker = s.checker := by
  unfold State.senseShort State.short State.escalate
  split
  · split
    · dsimp only
      split <;> simp
    · rfl
  · rfl

@[simp] theorem startPulse_checker (s : State) (l : LineId) : (s.startPulse l).checker = s.checker := by
  unfold State.startPulse
  split
  · split <;> simp
  · rfl

@[simp] theorem endPulse_checker (s : State) (l : LineId) : (s.endPulse l).checker = s.checker := by
  unfold State.endPulse State.openPulse
  split
  · split
    · split
      · simp
      · dsimp only
        split <;> simp
    · rfl
  · rfl

@[simp] theorem endRetry_checker (s : State) (l : LineId) : (s.endRetry l).checker = s.checker := by
  unfold State.endRetry
  split <;> simp

@[simp] theorem setClockLine_checker (s : State) (p : ClockLineParams) : (s.setClockLine p).checker = s.checker := by
  unfold State.setClockLine
  split
  · rfl
  · dsimp only
    split <;> simp

@[simp] theorem firstReport_checker (s : State) (p : PortId) (up : Bool) : (s.firstReport p up).checker = s.checker := by
  unfold State.firstReport
  split <;> simp

@[simp] theorem linkUp_checker (s : State) (p : PortId) : (s.linkUp p).checker = s.checker := by
  unfold State.linkUp
  split
  · simp
  · split
    · rfl
    · exact checker_of_sameBut (takeLinkUp_sameBut s p)

@[simp] theorem linkDown_checker (s : State) (p : PortId) : (s.linkDown p).checker = s.checker := by
  unfold State.linkDown
  split
  · simp
  · split
    · exact checker_of_sameBut (takeLinkDown_sameBut s p)
    · rfl

@[simp] theorem setFrame_checker (s : State) (p : PortId) (f : Frame) : (s.setFrame p f).checker = s.checker :=
  checker_of_sameBut (modifyPort_sameBut s p _)

@[simp] theorem telegramParse_checker (s : State) (p : PortId) (o : List Byte) :
    (s.telegramParse p o).checker = s.checker := by
  unfold State.telegramParse
  split <;> simp

@[simp] theorem passRequest_checker (s : State) (t : Telegram) (q : Request) : (s.passRequest t q).checker = s.checker := by
  unfold State.passRequest
  split
  · rfl
  · dsimp only
    split <;> simp

@[simp] theorem telegramCheck_checker (s : State) (p : PortId) (c : Word16) : (s.telegramCheck p c).checker = s.checker := by
  unfold State.telegramCheck
  split
  · rfl
  · split <;> simp

@[simp] theorem frameCut_checker (s : State) (p : PortId) (o : List Byte) : (s.frameCut p o).checker = s.checker := by
  unfold State.frameCut
  split
  · rfl
  · dsimp only
    split
    · exact checker_of_sameBut (cut_sameBut s p _)
    · simp

@[simp] theorem portSilence_checker (s : State) (p : PortId) : (s.portSilence p).checker = s.checker := by
  unfold State.portSilence
  dsimp only
  split <;> simp

@[simp] theorem lastOctetLeft_checker (s : State) (p : PortId) : (s.lastOctetLeft p).checker = s.checker := by
  unfold State.lastOctetLeft
  split <;> simp

@[simp] theorem setRingPort_checker (s : State) (p m l : Nat) : (s.setRingPort p m l).checker = s.checker := by
  unfold State.setRingPort
  split <;> simp

end Sys2Proof.Laws
end

section
/-! SUPPORT. One tag is LIVE, and a drain end is held exactly while the other is DRAINING, through every operation of the part
(R128, R130, R131). -/

namespace Sys2Proof.Laws

open Sys2Proof Sys2Proof.Machine

/-! ## The tags (R128) -/

@[simp] theorem period_other_other (p : Period) : p.other.other = p := by cases p <;> rfl

theorem period_eq_or_other (p q : Period) : q = p ∨ q = p.other := by
  cases p <;> cases q <;> simp [Period.other]

theorem tag_congr {s t : State} (h : storeless t.checker = storeless s.checker) (p : Period) : t.tag p = s.tag p := by
  obtain ⟨ha, hb, -⟩ := storeless_eq_iff.mp h
  cases p
  · exact ha
  · exact hb

/-- A tag in a given state is found, where the other is not in it too. -/
theorem tagIn_of_tag {s : State} {p : Period} {x : TagState} (h : s.tag p = x) (ho : s.tag p.other ≠ x) :
    s.tagIn x = some p := by
  cases p <;> simp_all [State.tagIn, State.tag, Period.other]

theorem tag_of_tagIn {s : State} {p : Period} {x : TagState} (h : s.tagIn x = some p) : s.tag p = x := by
  unfold State.tagIn at h
  split at h
  · cases h
    assumption
  · split at h
    · cases h
      assumption
    · cases h

/-- One tag is LIVE: the other is DRAINING while a drain end is held, and STANDBY while none is. -/
theorem oneLive_iff {s : State} :
    s.OneLive ↔ ∃ p, s.tag p = .live ∧ s.tag p.other ≠ .live
      ∧ (s.checker.drainEnd.isSome = true ↔ s.tag p.other = .draining) := by
  unfold State.OneLive
  constructor
  · rintro ⟨⟨ha, hb⟩ | ⟨hb, ha⟩, hdrain⟩
    · exact ⟨.a, ha, hb, by simpa [ha, State.tag, Period.other] using hdrain⟩
    · exact ⟨.b, hb, ha, by simpa [hb, State.tag, Period.other] using hdrain⟩
  · rintro ⟨p, hlive, hother, hdrain⟩
    cases p with
    | a =>
      have ha : s.checker.tagA = .live := hlive
      exact ⟨.inl ⟨hlive, hother⟩, by simpa [ha, State.tag, Period.other] using hdrain⟩
    | b =>
      have hb : s.checker.tagB = .live := hlive
      exact ⟨.inr ⟨hlive, hother⟩, by simpa [hb, State.tag, Period.other] using hdrain⟩

theorem oneLive_of_storeless {s t : State} (h : storeless t.checker = storeless s.checker) (hs : s.OneLive) :
    t.OneLive := by
  obtain ⟨-, -, -, hdrain, -⟩ := storeless_eq_iff.mp h
  simpa only [oneLive_iff, tag_congr h, hdrain] using hs

theorem oneLive_of_checker {s t : State} (h : t.checker = s.checker) (hs : s.OneLive) : t.OneLive :=
  oneLive_of_storeless (congrArg storeless h) hs

/-- A tag that is not LIVE leaves the other LIVE. -/
theorem other_live {s : State} (h : s.OneLive) {p : Period} (hp : s.tag p ≠ .live) : s.tag p.other = .live := by
  obtain ⟨q, hlive, -⟩ := oneLive_iff.mp h
  obtain rfl | rfl := period_eq_or_other p q
  · exact absurd hlive hp
  · exact hlive

theorem tagIn_live {s : State} (h : s.OneLive) {p : Period} (hp : s.tag p = .live) : s.tagIn .live = some p := by
  refine tagIn_of_tag hp fun ho => ?_
  obtain ⟨q, hlive, hother, -⟩ := oneLive_iff.mp h
  obtain rfl | rfl := period_eq_or_other p q
  · exact hother ho
  · exact hother (by rwa [period_other_other])

theorem tagIn_draining {s : State} (h : s.OneLive) {p : Period} (hp : s.tag p = .draining) :
    s.tagIn .draining = some p :=
  tagIn_of_tag hp (by simp [other_live h (p := p) (by simp [hp])])

/-! ## Drain end and changeover (R130, R131) -/

/-- The part once a tag's drain end is taken, its entry not yet formed. -/
def drained (s : State) (p : Period) : State :=
  { s.setTag p .standby with checker := { (s.setTag p .standby).checker with drainEnd := none } }

/-- A drain end is the tag's state, the entry, and the withdrawals in the order of the due queue (R131). -/
theorem drainTag_eq (s : State) (p : Period) :
    s.drainTag p = (s.dueQueue.filter (fun e => decide (e.period = p))).foldl (fun x e => x.withdraw e .drainEnd)
      ((drained s p).note (drained s p).capture
        (.stateDrainEnd p (s.dueQueue.filter (fun e => decide (e.period = p))).length)) := rfl

@[simp] theorem drainTag_storeless (s : State) (p : Period) :
    storeless (s.drainTag p).checker = storeless (drained s p).checker := by
  rw [drainTag_eq, foldl_same (fun u => storeless u.checker) _ fun u e => withdraw_storeless u e .drainEnd]
  simp

/-- The part once a tag's changeover is taken, its entry not yet formed. -/
def changedOver (s : State) (p : Period) (drainEnd : Nat) : State :=
  { (s.setTag p .draining).setTag p.other .live with
    checker := { ((s.setTag p .draining).setTag p.other .live).checker with
      schedule := none, drainEnd := some drainEnd } }

/-- A changeover is taken: the tags, the entry, and the drain end where it is reached already (R130). -/
theorem takeChangeover_of_reached {s : State} {c : Schedule} {p : Period} (hc : s.checker.schedule = some c)
    (hp : s.tagIn .live = some p) (h : c.instant.nanos ≤ s.time.centre) :
    s.takeChangeover =
      ((changedOver s p (c.instant.seconds + c.drain)).note (changedOver s p (c.instant.seconds + c.drain)).capture
        (.stateChangeover p p.other c.instant (c.instant.seconds + c.drain))).takeDrainEnd := by
  have hr : s.changeoverReached = true := by simp [State.changeoverReached, hc, h]
  simp only [State.takeChangeover, hc, hp, hr, if_true]
  rfl

theorem tag_drained_same (s : State) (p : Period) : (drained s p).tag p = .standby := by cases p <;> rfl

theorem tag_drained_other (s : State) (p : Period) : (drained s p).tag p.other = s.tag p.other := by cases p <;> rfl

theorem tag_changedOver_same (s : State) (p : Period) (n : Nat) : (changedOver s p n).tag p = .draining := by
  cases p <;> rfl

theorem tag_changedOver_other (s : State) (p : Period) (n : Nat) : (changedOver s p n).tag p.other = .live := by
  cases p <;> rfl

/-- The tag that drains becomes STANDBY, beside the LIVE one. -/
theorem drained_oneLive {s : State} {p : Period} (h : s.tag p.other = .live) : (drained s p).OneLive := by
  refine oneLive_iff.mpr ⟨p.other, (tag_drained_other s p).trans h, ?_⟩
  rw [period_other_other, tag_drained_same]
  simp [drained]

/-- The tags change places, whatever they were. -/
theorem changedOver_oneLive (s : State) (p : Period) (n : Nat) : (changedOver s p n).OneLive := by
  refine oneLive_iff.mpr ⟨p.other, tag_changedOver_other s p n, ?_⟩
  rw [period_other_other, tag_changedOver_same]
  simp [changedOver]

theorem takeDrainEnd_oneLive {s : State} (h : s.OneLive) : s.takeDrainEnd.OneLive := by
  unfold State.takeDrainEnd
  split
  · split
    · next p hp =>
      have hdraining := tag_of_tagIn hp
      exact oneLive_of_storeless (drainTag_storeless s p) (drained_oneLive (other_live h (by simp [hdraining])))
    · exact h
  · exact h

theorem takeChangeover_oneLive {s : State} (h : s.OneLive) : s.takeChangeover.OneLive := by
  unfold State.takeChangeover
  split
  · next c p hc hp =>
    split
    · exact takeDrainEnd_oneLive (oneLive_of_checker (checker_of_sameBut (note_sameBut _ _ _ _)) (changedOver_oneLive s p _))
    · exact h
  · exact h

/-! ## Marks, whose first set or step passes the two instants (R10, R12, R37) -/

theorem takeInstant_oneLive {s : State} (h : s.OneLive) (o : InstantOwner) : (s.takeInstant o).OneLive := by
  cases o with
  | offset => exact oneLive_of_checker (by simp [State.takeInstant]) h
  | period => exact takeDrainEnd_oneLive (takeChangeover_oneLive h)
  | expiry => exact oneLive_of_storeless (expireDue_storeless s) h

theorem takePassed_oneLive {s : State} (h : s.OneLive) : s.takePassed.OneLive :=
  List.foldlRecOn (motive := State.OneLive) _ State.takeInstant h fun _ hu o _ => takeInstant_oneLive hu o

theorem acceptedMark_oneLive {s : State} (h : s.OneLive) (m : AcceptedMark) : (s.acceptedMark m).OneLive := by
  unfold State.acceptedMark
  dsimp only
  split
  · exact takePassed_oneLive (oneLive_of_checker (by simp) h)
  · split <;> exact oneLive_of_storeless (by simp) h

theorem goodMark_oneLive {s : State} (h : s.OneLive) (m : AcceptedMark) : (s.goodMark m).OneLive := by
  have hselection : ((countedGood s m).evalSelection false).OneLive := oneLive_of_checker (by simp [countedGood]) h
  rw [goodMark_eq]
  split
  · exact acceptedMark_oneLive hselection m
  · exact oneLive_of_storeless (settledFrom_storeless _ _) hselection

theorem judgeMark_oneLive {s : State} (h : s.OneLive) (w : Wired) (m : MarkInProgress) (n : Nat) :
    (s.judgeMark w m n).OneLive := by
  have hjudged : (s.setWired w { s.wired w with mark := none }).OneLive := oneLive_of_checker (by simp) h
  unfold State.judgeMark
  dsimp only
  split
  · exact goodMark_oneLive hjudged _
  · exact oneLive_of_storeless (badMark_storeless _ _) hjudged

theorem trailingEdge_oneLive {s : State} (h : s.OneLive) (w : Wired) : (s.trailingEdge w).OneLive := by
  have hended : (s.setWired w { s.wired w with lineActive := false }).OneLive := oneLive_of_checker (by simp) h
  unfold State.trailingEdge
  dsimp only
  split
  · exact judgeMark_oneLive hended w _ _
  · exact hended

theorem widthLimit_oneLive {s : State} (h : s.OneLive) (w : Wired) : (s.widthLimit w).OneLive := by
  unfold State.widthLimit
  split
  · split
    · exact judgeMark_oneLive h w _ _
    · exact h
  · exact h

theorem ringMark_oneLive {s : State} (h : s.OneLive) (x : TimeSlot) (c : Capture) : (s.ringMark x c).OneLive := by
  have hrenewed : State.OneLive (if s.refs.ring.state = .absent then s
      else s.setSource .ring { s.refs.ring with markDeadline := some (c.elapsed + 1500000) }) := by
    split
    · exact h
    · exact oneLive_of_checker (by simp) h
  unfold State.ringMark
  dsimp only
  generalize (if s.refs.ring.state = .absent then s
      else s.setSource .ring { s.refs.ring with markDeadline := some (c.elapsed + 1500000) }) = u at hrenewed ⊢
  have hfollowed : State.OneLive (if (s.followed x && x.second.isSome) = true then
      { u with refs := { u.refs with lastRingSecond := x.second } } else u) := by
    split <;> exact hrenewed
  split
  · exact goodMark_oneLive hfollowed _
  · exact oneLive_of_storeless (badMark_storeless _ _) hfollowed

theorem ringTelegram_oneLive {s : State} (h : s.OneLive) (b : List Byte) (c : Capture) :
    (s.ringTelegram b c).OneLive := by
  have hrenewed : State.OneLive (if s.followed (timeSlot b) then s.renewAbsence .ring else s) := by
    split
    · exact oneLive_of_checker (by simp [State.renewAbsence]) h
    · exact h
  unfold State.ringTelegram
  split
  · dsimp only
    split
    · exact hrenewed
    · exact ringMark_oneLive hrenewed _ c
  · exact h

/-! ## Requests at their commit (R78, R127, R129, R132 to R135, R179) -/

theorem loadEntry_tags (s : State) (p : LoadEntryParams) :
    (s.loadEntry p).checker.tagA = s.checker.tagA ∧ (s.loadEntry p).checker.tagB = s.checker.tagB
      ∧ (s.loadEntry p).checker.drainEnd = s.checker.drainEnd := by
  cases h : entryArguments p with
  | none => simp only [State.loadEntry, h, and_self]
  | some x => simp [loadEntry_of_arguments h]

theorem erasePeriod_storeless (s : State) (n : Nat) : storeless (s.erasePeriod n).checker = storeless s.checker := by
  cases h : periodOf n with
  | none => simp only [State.erasePeriod, h]
  | some p => simp [erasePeriod_of_code h, storeless]

theorem withdrawEntry_storeless (s : State) (i : Nat) : storeless (s.withdrawEntry i).checker = storeless s.checker := by
  unfold State.withdrawEntry
  split
  · split <;> simp
  · rfl

theorem requestState_storeless (s : State) (n : Nat) : storeless (s.requestState n).checker = storeless s.checker := by
  have abandoned : ∀ (l : List Nat) (u : State), (l.foldl State.abandon u).checker = u.checker :=
    foldl_same State.checker State.abandon abandon_checker
  unfold State.requestState
  split
  · simp [State.enterRun, State.elementsEnterRun]
  · simp [State.leaveRun, State.elementsLeaveRun, abandoned]
  · rfl

theorem acknowledgeRecord_checker (s : State) (n : Word32) : (s.acknowledgeRecord n).checker = s.checker := by
  unfold State.acknowledgeRecord State.removeThrough
  split <;> simp

theorem acknowledgeAlarm_checker (s : State) (t a : Nat) : (s.acknowledgeAlarm t a).checker = s.checker := by
  have cleared : ∀ g, (s.clearLatch g).checker = s.checker := by
    intro g
    unfold State.clearLatch
    split <;> simp
  unfold State.acknowledgeAlarm
  split
  · next g _ => exact (checker_of_sameBut (releaseTarget_sameBut _ g)).trans (cleared g)
  · rfl

theorem setElementMode_checker (s : State) (a m : Nat) : (s.setElementMode a m).checker = s.checker := by
  unfold State.setElementMode
  split
  · split <;> simp
  · rfl

/-- A part whose checker is that of power-on, whatever its count of loads. -/
theorem oneLive_of_powerOn {s : State} {n : Nat} (h : s.checker = { Checker.powerOn with loads := n }) : s.OneLive :=
  oneLive_iff.mpr ⟨.a, by simp [State.tag, h, Checker.powerOn, Period.other]⟩

theorem effect_oneLive {s : State} (h : s.OneLive) (q : Request) : (s.effect q).OneLive := by
  cases q with
  | loadEntry p =>
    obtain ⟨ha, hb, hdrain⟩ := loadEntry_tags s p
    simpa only [State.effect, State.OneLive, ha, hb, hdrain] using h
  | erasePeriod n => exact oneLive_of_storeless (erasePeriod_storeless s n) h
  | withdrawEntry i => exact oneLive_of_storeless (withdrawEntry_storeless s i) h
  | requestState n => exact oneLive_of_storeless (requestState_storeless s n) h
  | setTimeConfiguration p => exact oneLive_of_storeless (setTimeConfig_storeless s p) h
  | restart => exact oneLive_of_powerOn (n := _) rfl
  | setElementMode a m => exact oneLive_of_checker (setElementMode_checker s a m) h
  | loadElement p => exact oneLive_of_checker (checker_of_sameBut (loadElement_sameBut s p)) h
  | unloadElement a => exact oneLive_of_checker (checker_of_sameBut (unloadElement_sameBut s a)) h
  | setLocalOffset o i => exact oneLive_of_checker (setLocalOffset_checker s o i) h
  | setRingPort p m l => exact oneLive_of_checker (setRingPort_checker s p m l) h
  | setClockLine p => exact oneLive_of_checker (setClockLine_checker s p) h
  | acknowledgeRecord n => exact oneLive_of_checker (acknowledgeRecord_checker s n) h
  | acknowledgeAlarm t a => exact oneLive_of_checker (acknowledgeAlarm_checker s t a) h
  | setTimetableSettings | setChangeover | setActions | setRunCondition => exact h
  | readStatus | readElement | readEntry | readRecord | acknowledgeErrorIndication => exact h

theorem commitService_oneLive {s : State} (h : s.OneLive) (c : Byte) (q : Option Request) (r : Result)
    (x : Option Reason) (judged since : Nat) : (s.commitService c q r x judged since).OneLive := by
  have hindicated : (s.indicate c r x).OneLive := oneLive_of_checker (checker_of_sameBut (indicate_sameBut s c r x)) h
  have happlied : ∀ q, ((s.indicate c r x).applyRequest q).OneLive := by
    intro q
    unfold State.applyRequest
    split
    · exact effect_oneLive hindicated q
    · exact hindicated
  unfold State.commitService
  dsimp only
  split
  · split
    · exact happlied _
    · exact hindicated
  · exact hindicated

theorem commitItem_oneLive {s : State} (h : s.OneLive) (p : PortId) (processed : Bool) (since : Nat) (i : Item) :
    (State.commitItem p processed since s i).OneLive := by
  unfold State.commitItem
  split
  · exact oneLive_of_storeless (applyElement_storeless s _ _) h
  · split
    · exact ringTelegram_oneLive h _ _
    · exact h
  · exact commitService_oneLive h _ _ _ _ _ _

theorem commit_oneLive {s : State} (h : s.OneLive) (p : PortId) (f : Frame) : (s.commit p f).OneLive := by
  have hitems : (itemsCommitted s p f).OneLive :=
    List.foldlRecOn (motive := State.OneLive) _ _ h fun _ hu i _ => commitItem_oneLive hu p f.processed _ i
  rw [commit_eq]
  exact oneLive_of_checker (by simp) hitems

theorem frameEnd_oneLive {s : State} (h : s.OneLive) (p : PortId) (o : List Byte) : (s.frameEnd p o).OneLive := by
  have hleft : ∀ f, (frameLeft s p f).OneLive := fun f => oneLive_of_checker (checker_of_sameBut (frameLeft_sameBut s p f)) h
  unfold State.frameEnd
  split
  · exact oneLive_of_checker (by simp) h
  · next f hf =>
    dsimp only
    split
    · exact oneLive_of_checker (by simp [checker_of_sameBut (cut_sameBut s p _)]) h
    · change State.OneLive (if _ then if _ then (frameLeft s p (f.flush.pass o)).commit p (f.flush.pass o) else
        frameLeft s p (f.flush.pass o) else (frameLeft s p (f.flush.pass o)).modifyPort p Port.countBad)
      split
      · split
        · exact commit_oneLive (hleft _) p _
        · exact hleft _
      · exact oneLive_of_checker (checker_of_sameBut (modifyPort_sameBut _ p _)) (hleft _)

/-! ## Every step (log 3, R187) -/

/-- A changeover, a drain end, and the rows whose commit or mark reaches them may write a tag; every other row leaves the
checker but for its entries. -/
theorem rowEffect_oneLive {s : State} (h : s.OneLive) (i : Instr) : (rowEffect i s).OneLive := by
  cases i with
  | frameEnd _ p o => exact frameEnd_oneLive h p o
  | markTrailingEdge _ w => exact trailingEdge_oneLive h w
  | markWidthLimit _ w => exact widthLimit_oneLive h w
  | changeover _ => exact takeChangeover_oneLive h
  | drainEnd _ => exact takeDrainEnd_oneLive h
  | timetableExpiry _ => exact oneLive_of_storeless (expireDue_storeless s) h
  | markLeadingEdge _ w => exact oneLive_of_storeless (leadingEdge_storeless s w) h
  | markDeadline _ x => exact oneLive_of_storeless (markDeadline_storeless s x) h
  | absenceDeadline _ x => exact oneLive_of_storeless (absenceDeadline_storeless s x) h
  | revertInstant _ x => exact oneLive_of_storeless (revertInstant_storeless s x) h
  | holdoverSecond _ => exact oneLive_of_storeless (holdoverSecond_storeless s) h
  | scaleEndHold _ => exact oneLive_of_storeless (scaleEndHold_storeless s) h
  | firstLinkReport _ p up => exact oneLive_of_checker (firstReport_checker s p up) h
  | linkDown _ p => exact oneLive_of_checker (linkDown_checker s p) h
  | linkUp _ p => exact oneLive_of_checker (linkUp_checker s p) h
  | loopStateChange _ p => exact oneLive_of_checker (checker_of_sameBut (applyLoop_sameBut s p)) h
  | frameStart _ p head => exact oneLive_of_checker (checker_of_sameBut (frameStart_sameBut s p head)) h
  | telegramParse _ p o => exact oneLive_of_checker (telegramParse_checker s p o) h
  | telegramCheck _ p check => exact oneLive_of_checker (telegramCheck_checker s p check) h
  | frameCut _ p o => exact oneLive_of_checker (frameCut_checker s p o) h
  | portSilenceDeadline _ p => exact oneLive_of_checker (portSilence_checker s p) h
  | lastOctetLeft _ p => exact oneLive_of_checker (lastOctetLeft_checker s p) h
  | referenceMessage _ w o => exact oneLive_of_checker (referenceMessage_checker s w o) h
  | messageOctet _ w b => exact oneLive_of_checker (messageOctet_checker s w b) h
  | messageOctetTimeout _ w => exact oneLive_of_checker (octetTimeout_checker s w) h
  | messageFramingError _ w => exact oneLive_of_checker (checker_of_sameBut (setWired_sameBut s w _)) h
  | secondMarkStart _ => exact oneLive_of_checker (secondMarkStart_checker s) h
  | secondMarkEnd _ => exact oneLive_of_checker (secondMarkFall_checker s) h
  | offsetChangeInstant _ => exact oneLive_of_checker (checker_of_sameBut (takeOffset_sameBut s)) h
  | elementSilenceDeadline _ a => exact oneLive_of_checker (silenceDeadline_checker s a) h
  | startDeadline _ a => exact oneLive_of_checker (startDeadline_checker s a) h
  | runDeadline _ a => exact oneLive_of_checker (runDeadline_checker s a) h
  | settleDeadline _ a => exact oneLive_of_checker (settleDeadline_checker s a) h
  | confirmDeadline _ a => exact oneLive_of_checker (confirmDeadline_checker s a) h
  | pulseStart _ l => exact oneLive_of_checker (startPulse_checker s l) h
  | currentPresent _ l active => exact oneLive_of_checker (by simp [rowEffect, State.senseCurrent]) h
  | pulseEnd _ l => exact oneLive_of_checker (endPulse_checker s l) h
  | overcurrent _ l active => exact oneLive_of_checker (by simp [rowEffect, State.senseOvercurrent]) h
  | retryDeadline _ l => exact oneLive_of_checker (endRetry_checker s l) h
  | powerOn _ => exact h
  | resetAssert => exact h
  | _ => exact oneLive_of_checker (passRequest_checker s _ _) h

/-- Every command keeps one tag LIVE. -/
theorem exec_oneLive {s t : State} {i : Instr} (hs : s.OneLive) (h : exec i s = .next t) : t.OneLive := by
  by_cases hp : ∃ b, i = .powerOn b
  · obtain ⟨b, rfl⟩ := hp
    obtain rfl := (Host.Outcome.next.inj h).symm
    exact oneLive_of_powerOn (n := 0) rfl
  · by_cases hr : i = .resetAssert
    · subst hr
      obtain rfl := (Host.Outcome.next.inj h).symm
      exact oneLive_of_powerOn (n := 0) rfl
    · rw [exec_eq_timed (fun b hb => hp ⟨b, hb⟩) hr] at h
      obtain rfl := (Host.Outcome.next.inj h).symm
      split
      · exact hs
      · exact rowEffect_oneLive (oneLive_of_checker (by simp) hs) i

theorem idle_checker (s : State) : s.idle.checker = s.checker := by
  unfold State.idle
  split
  · rfl
  · split <;> rfl

end Sys2Proof.Laws

namespace Sys2Proof.Proofs

open Sys2Proof Sys2Proof.Machine Sys2Proof.Laws

/-- Settles O57: an empty queue leaves the checker, and every command keeps one tag LIVE. -/
theorem oneTagStaysLive : Obligations.OneTagStaysLive := by
  intro s t hs h
  unfold step at h
  split at h
  · obtain rfl := (Host.Outcome.next.inj h).symm
    exact oneLive_of_checker (idle_checker s) hs
  · next c rest _ =>
    have hrest : State.OneLive { s with pending := rest } := hs
    exact exec_oneLive hrest h

end Sys2Proof.Proofs
end

section
/-! SUPPORT. The due queue, and the entries that a run of verdicts leaves: their states, and the record (R131, R139, R141 to
R143). -/

namespace Sys2Proof.Laws

open Sys2Proof Sys2Proof.Machine

/-! ## The due queue (R141) -/

theorem dueBefore_iff {x y : TimetableEntry} :
    x.dueBefore y = true ↔ x.expiry < y.expiry ∨ (x.expiry = y.expiry ∧ x.id < y.id) := by
  simp [TimetableEntry.dueBefore]

theorem insertDue_perm (e : TimetableEntry) (l : List TimetableEntry) : (insertDue e l).Perm (e :: l) := by
  induction l with
  | nil => exact List.Perm.refl _
  | cons x l ih =>
    unfold insertDue
    split
    · exact List.Perm.refl _
    · exact (ih.cons x).trans (List.Perm.swap e x l)

/-- No entry of a list stands behind one that is due after it (R141). -/
def inDueOrder (l : List TimetableEntry) : Prop :=
  l.Pairwise fun e x => e.expiry < x.expiry ∨ (e.expiry = x.expiry ∧ e.id ≤ x.id)

theorem insertDue_inDueOrder (e : TimetableEntry) {l : List TimetableEntry} (h : inDueOrder l) :
    inDueOrder (insertDue e l) := by
  induction l with
  | nil => exact List.pairwise_singleton _ _
  | cons x l ih =>
    obtain ⟨hx, hl⟩ := List.pairwise_cons.mp h
    unfold insertDue
    split
    · next hb =>
      have hb := dueBefore_iff.mp hb
      refine List.pairwise_cons.mpr ⟨fun y hy => ?_, h⟩
      obtain rfl | hy := List.mem_cons.mp hy
      · omega
      · have := hx y hy
        omega
    · next hb =>
      have hb := mt dueBefore_iff.mpr hb
      refine List.pairwise_cons.mpr ⟨fun y hy => ?_, ih hl⟩
      obtain rfl | hy := List.mem_cons.mp ((insertDue_perm e l).mem_iff.mp hy)
      · omega
      · exact hx y hy

theorem dueQueue_perm (s : State) :
    s.dueQueue.Perm (s.checker.store.filter fun e => decide (e.state = .pending)) := by
  unfold State.dueQueue dueOrder
  induction s.checker.store.filter fun e => decide (e.state = .pending) with
  | nil => exact List.Perm.refl _
  | cons e l ih => exact (insertDue_perm e _).trans (ih.cons e)

theorem dueQueue_inDueOrder (s : State) : inDueOrder s.dueQueue := by
  unfold State.dueQueue dueOrder
  induction s.checker.store.filter fun e => decide (e.state = .pending) with
  | nil => exact List.Pairwise.nil
  | cons e l ih => exact insertDue_inDueOrder e ih

theorem mem_dueQueue {s : State} {e : TimetableEntry} : e ∈ s.dueQueue ↔ e ∈ s.checker.store ∧ e.state = .pending := by
  simp [(dueQueue_perm s).mem_iff]

/-- The PENDING entries of a tag, counted in the due queue (R131). -/
theorem length_dueQueue_period (s : State) (p : Period) :
    (s.dueQueue.filter fun e => decide (e.period = p)).length
      = (s.checker.store.filter fun e => decide (e.period = p) && decide (e.state = .pending)).length := by
  rw [((dueQueue_perm s).filter _).length_eq, List.filter_filter]

/-! ## A verdict (R139) -/

theorem verdict_sameElements (s : State) (c : Capture) (v : VerdictEntry) : sameElements s (s.verdict c v) := by
  unfold State.verdict
  split
  · exact raise_sameElements s _
  · exact sameElements_of_eq (by simp)

theorem verdict_sameBut (s : State) (c : Capture) (v : VerdictEntry) :
    sameBut s (s.verdict c v) [.record, .alarms, .elements] := by
  unfold State.verdict
  split
  · exact raise_leaves s _
  · exact sameBut_mono (note_sameBut s _ _ _) (by decide)

theorem verdict_congr {s t : State} (h : sameForRecord s t) (c : Capture) (v : VerdictEntry) :
    sameForRecord (s.verdict c v) (t.verdict c v) := by
  unfold State.verdict
  split
  · exact raise_congr h _
  · exact note_congr h _ _ _

theorem modifyEntry_sameForRecord (s : State) (i : Nat) (f : TimetableEntry → TimetableEntry) :
    sameForRecord s (s.modifyEntry i f) := by
  simp [sameForRecord]

theorem modifyEntry_sameBut (s : State) (i : Nat) (f : TimetableEntry → TimetableEntry) :
    sameBut s (s.modifyEntry i f) [.checker] := by
  intro b hb
  cases b <;> simp_all [Block.same]

/-! ## A run of verdicts (R131, R142) -/

/-- An entry is left in a state, with its verdict: what an expiry and a withdrawal both do (R131, R143). -/
def judged (c : Capture) (g : TimetableEntry → EntryState) (v : TimetableEntry → VerdictEntry) (s : State)
    (e : TimetableEntry) : State :=
  (s.modifyEntry e.id fun x => { x with state := g e }).verdict c (v e)

/-- What verdicts on a list of entries leave of an entry: the state from the last of its id. -/
def restated (g : TimetableEntry → EntryState) (l : List TimetableEntry) (x : TimetableEntry) : TimetableEntry :=
  l.foldl (fun x e => if x.id = e.id then { x with state := g e } else x) x

theorem restated_cases (g : TimetableEntry → EntryState) (l : List TimetableEntry) (x : TimetableEntry) :
    ((∀ e ∈ l, e.id ≠ x.id) ∧ restated g l x = x)
      ∨ ∃ e ∈ l, e.id = x.id ∧ restated g l x = { x with state := g e } := by
  induction l generalizing x with
  | nil => exact .inl ⟨by simp, rfl⟩
  | cons a l ih =>
    rw [restated, List.foldl_cons]
    by_cases hx : x.id = a.id
    · rw [if_pos hx]
      obtain ⟨-, h⟩ | ⟨e, he, hid, h⟩ := ih { x with state := g a }
      · exact .inr ⟨a, by simp, hx.symm, h⟩
      · exact .inr ⟨e, by simp [he], hid, h⟩
    · rw [if_neg hx]
      obtain ⟨hno, h⟩ | ⟨e, he, hid, h⟩ := ih x
      · exact .inl ⟨by simpa [Ne.symm hx] using hno, h⟩
      · exact .inr ⟨e, by simp [he], hid, h⟩

theorem restated_id (g : TimetableEntry → EntryState) (l : List TimetableEntry) (x : TimetableEntry) :
    (restated g l x).id = x.id := by
  obtain ⟨-, h⟩ | ⟨e, -, -, h⟩ := restated_cases g l x <;> rw [h]

section
variable {g : TimetableEntry → EntryState} {l : List TimetableEntry} {x : TimetableEntry}

/-- An entry still PENDING after verdicts that leave none PENDING is none of those judged. -/
theorem not_mem_of_restated_pending (hg : ∀ e, g e ≠ .pending) (h : (restated g l x).state = .pending) :
    x ∉ l ∧ restated g l x = x := by
  obtain ⟨hno, heq⟩ | ⟨e, -, -, heq⟩ := restated_cases g l x
  · exact ⟨fun hx => hno x hx rfl, heq⟩
  · rw [heq] at h
    exact absurd h (hg e)

/-- With one entry for each id, an entry that is judged takes the state of its own verdict. -/
theorem restated_of_mem (hu : ∀ e ∈ l, e.id = x.id → e = x) (hx : x ∈ l) : restated g l x = { x with state := g x } := by
  obtain ⟨hno, -⟩ | ⟨e, he, hid, heq⟩ := restated_cases g l x
  · exact absurd rfl (hno x hx)
  · rw [heq, hu e he hid]

theorem restated_of_not_mem (hu : ∀ e ∈ l, e.id = x.id → e = x) (hx : x ∉ l) : restated g l x = x := by
  obtain ⟨-, heq⟩ | ⟨e, he, hid, -⟩ := restated_cases g l x
  · exact heq
  · exact absurd (hu e he hid ▸ he) hx

end

section
variable (c : Capture) (g : TimetableEntry → EntryState) (v : TimetableEntry → VerdictEntry)

theorem judged_sameElements (s : State) (e : TimetableEntry) : sameElements s (judged c g v s e) :=
  verdict_sameElements (s.modifyEntry e.id fun x => { x with state := g e }) c (v e)

theorem foldl_judged_sameElements (l : List TimetableEntry) (s : State) :
    sameElements s (l.foldl (judged c g v) s) :=
  List.foldlRecOn (motive := sameElements s) l _ (sameElements_of_eq rfl)
    fun u hu e _ => sameElements_trans hu (judged_sameElements c g v u e)

theorem foldl_judged_store (l : List TimetableEntry) (s : State) :
    (l.foldl (judged c g v) s).checker.store = s.checker.store.map (restated g l) := by
  induction l generalizing s with
  | nil => exact (List.map_id _).symm
  | cons e l ih =>
    rw [List.foldl_cons, ih]
    simp only [judged, verdict_frame, State.modifyEntry, List.map_map]
    rfl

/-- The record that a run of verdicts leaves is that of the verdicts alone. -/
theorem foldl_judged_congr {s t : State} (h : sameForRecord s t) (l : List TimetableEntry) :
    sameForRecord (l.foldl (fun x e => x.verdict c (v e)) s) (l.foldl (judged c g v) t) := by
  induction l generalizing s t with
  | nil => exact h
  | cons e l ih => exact ih (verdict_congr (sameForRecord_trans h (modifyEntry_sameForRecord t e.id _)) c (v e))

end

theorem foldl_judged_ids (c : Capture) (g : TimetableEntry → EntryState) (v : TimetableEntry → VerdictEntry)
    (l : List TimetableEntry) (s : State) :
    (l.foldl (judged c g v) s).checker.store.map (·.id) = s.checker.store.map (·.id) := by
  rw [foldl_judged_store, List.map_map]
  exact List.map_congr_left fun x _ => restated_id g l x

/-- The entry of an id once a run of verdicts is given. -/
theorem entry_foldl_judged (c : Capture) (g : TimetableEntry → EntryState) (v : TimetableEntry → VerdictEntry)
    (l : List TimetableEntry) (s : State) (i : Nat) :
    (l.foldl (judged c g v) s).entry i = (s.entry i).map (restated g l) := by
  have hid : (fun x : TimetableEntry => x.id == i) ∘ restated g l = fun x => x.id == i := by
    funext x
    simp only [Function.comp_apply, restated_id]
  rw [State.entry, foldl_judged_store, List.find?_map, hid, State.entry]

/-- Two folds agree where their steps do, on the states that keep what the steps read. -/
theorem foldl_eq_of_kept {α : Type} {P : State → Prop} {f g : State → α → State}
    (h : ∀ s a, P s → f s a = g s a ∧ P (f s a)) (l : List α) {s : State} (hs : P s) : l.foldl f s = l.foldl g s := by
  induction l generalizing s with
  | nil => rfl
  | cons a l ih =>
    obtain ⟨heq, hkept⟩ := h s a hs
    rw [List.foldl_cons, List.foldl_cons, ih hkept, heq]

/-! ## Drain end (R131) -/

/-- The verdict of an entry that a drain end withdraws (R131, R139). -/
def drainVerdict (q : Quality) (e : TimetableEntry) : VerdictEntry :=
  e.unmatched .withdrawn (some .drainEnd) q.qualifies

/-- The entries that a drain end withdraws: the PENDING ones of the tag in the order of the due queue (R131). -/
def drainList (s : State) (p : Period) : List TimetableEntry := s.dueQueue.filter fun e => decide (e.period = p)

theorem mem_drainList {s : State} {p : Period} {e : TimetableEntry} :
    e ∈ drainList s p ↔ e ∈ s.checker.store ∧ e.state = .pending ∧ e.period = p := by
  simp [drainList, mem_dueQueue, and_assoc]

/-- The part with a tag's drain end taken and its entry formed, no entry of the store withdrawn yet. -/
def drainNoted (s : State) (p : Period) : State :=
  (drained s p).note (drained s p).capture (.stateDrainEnd p (drainList s p).length)

/-- The withdrawals of a drain end are a run of verdicts of one instant. -/
theorem drainTag_eq_judged (s : State) (p : Period) :
    s.drainTag p =
      (drainList s p).foldl (judged s.capture (fun _ => .withdrawn) (drainVerdict s.time.quality)) (drainNoted s p) := by
  refine foldl_eq_of_kept (P := fun u => u.time = s.time) (fun u e hu => ⟨?_, ?_⟩) _ ?_
  · simp only [State.withdraw, judged, drainVerdict, capture_eq hu, hu]
  · simpa using hu
  · simp

theorem drainNoted_store (s : State) (p : Period) : (drainNoted s p).checker.store = s.checker.store := by
  cases p <;> simp [drainNoted, drained, State.setTag]

theorem drainTag_store (s : State) (p : Period) :
    (s.drainTag p).checker.store = s.checker.store.map (restated (fun _ => .withdrawn) (drainList s p)) := by
  rw [drainTag_eq_judged, foldl_judged_store, drainNoted_store]

theorem drainTag_ids (s : State) (p : Period) :
    (s.drainTag p).checker.store.map (·.id) = s.checker.store.map (·.id) := by
  rw [drainTag_eq_judged, foldl_judged_ids, drainNoted_store]

/-- A drain end leaves no PENDING entry of its tag (R131). -/
theorem drainTag_not_pending {s : State} {p : Period} {e : TimetableEntry} (he : e ∈ (s.drainTag p).checker.store)
    (hp : e.period = p) : e.state ≠ .pending := by
  rw [drainTag_store] at he
  obtain ⟨x, hx, rfl⟩ := List.mem_map.mp he
  intro hpending
  obtain ⟨hno, heq⟩ := not_mem_of_restated_pending (by simp) hpending
  rw [heq] at hp hpending
  exact hno (mem_drainList.mpr ⟨hx, hpending, hp⟩)

/-- With one entry for each id, a drain end withdraws the PENDING entries of its tag and leaves the others (R131). -/
theorem drainTag_store_of_keyed {s : State} (h : keyed TimetableEntry.id s.checker.store) (p : Period) :
    (s.drainTag p).checker.store = s.checker.store.map fun e =>
      if e.period = p ∧ e.state = .pending then { e with state := .withdrawn } else e := by
  rw [drainTag_store]
  refine List.map_congr_left fun x hx => ?_
  have hu : ∀ e ∈ drainList s p, e.id = x.id → e = x := fun e he => eq_of_key_eq h (mem_drainList.mp he).1 hx
  split
  · next hd => exact restated_of_mem hu (mem_drainList.mpr ⟨hx, hd.2, hd.1⟩)
  · next hd => exact restated_of_not_mem hu fun hm => hd (mem_drainList.mp hm).2.symm

/-- The record that a drain end leaves, from any state that agrees on what the entries read. -/
theorem drainTag_record {u s : State} (h : sameForRecord u s) (p : Period) :
    (s.drainTag p).record =
      ((drainList s p).foldl (fun x e => x.verdict u.capture (drainVerdict u.time.quality e))
        (u.note u.capture (.stateDrainEnd p (drainList s p).length))).record := by
  have hdrained : sameForRecord s (drained s p) := by cases p <;> simp [sameForRecord, drained]
  have hnoted : sameForRecord (u.note u.capture (.stateDrainEnd p (drainList s p).length)) (drainNoted s p) := by
    rw [drainNoted, capture_congr (sameForRecord_trans h hdrained)]
    exact note_congr (sameForRecord_trans h hdrained) _ _ _
  have hquality : s.time.quality = u.time.quality := h.2.2.2.2.2.2
  rw [drainTag_eq_judged, capture_congr h, hquality]
  exact (foldl_judged_congr _ _ _ hnoted _).1

theorem drainTag_sameBut (s : State) (p : Period) : sameBut s (s.drainTag p) [.checker, .record] := by
  have hdrained : sameBut s (drained s p) [.checker, .record] := by
    intro b hb
    cases p <;> cases b <;> simp_all [Block.same, drained]
  rw [drainTag_eq]
  exact sameBut_trans hdrained (sameBut_trans (sameBut_mono (note_sameBut _ _ _ _) (by decide))
    (foldl_sameBut (fun u e => withdraw_sameBut u e .drainEnd) _ _))

theorem takeDrainEnd_of_reached {s : State} (h : s.OneLive) {p : Period} (hp : s.tag p = .draining) {d : Nat}
    (hd : s.checker.drainEnd = some d) (hr : d * 1000000000 ≤ s.time.centre) : s.takeDrainEnd = s.drainTag p := by
  have hreached : s.drainReached = true := by simp [State.drainReached, hd, hr]
  simp only [State.takeDrainEnd, hreached, if_true, tagIn_draining h hp]

theorem takeDrainEnd_of_not_reached {s : State} {d : Nat} (hd : s.checker.drainEnd = some d)
    (hr : s.time.centre < d * 1000000000) : s.takeDrainEnd = s := by
  have hreached : s.drainReached = false := by simp [State.drainReached, hd, hr]
  simp [State.takeDrainEnd, hreached]

end Sys2Proof.Laws
end

section
/-! SUPPORT. The changeover and the drain end as rows. -/

namespace Sys2Proof.Laws

open Sys2Proof Sys2Proof.Machine

theorem exec_changeover {s : State} (h : s.inReset = false) (dt : Nat) :
    exec (.changeover dt) s = .next (s.advance dt).takeChangeover := by
  simp [exec, execChangeover, State.timed, h]

theorem exec_drainEnd {s : State} (h : s.inReset = false) (dt : Nat) :
    exec (.drainEnd dt) s = .next (s.advance dt).takeDrainEnd := by
  simp [exec, execDrainEnd, State.timed, h]

/-! ## What a drain end leaves (R131) -/

/-- The tag is STANDBY, the other as it was, the drain end gone, and the rest of the checker but its entries the same. -/
theorem drainTag_rest (s : State) (p : Period) :
    (s.drainTag p).tag p = .standby ∧ (s.drainTag p).tag p.other = s.tag p.other
      ∧ (s.drainTag p).checker.drainEnd = none ∧ (s.drainTag p).checker.schedule = s.checker.schedule
      ∧ (s.drainTag p).checker.lead = s.checker.lead ∧ (s.drainTag p).checker.grace = s.checker.grace
      ∧ (s.drainTag p).checker.loads = s.checker.loads := by
  have hrest := drainTag_storeless s p
  obtain ⟨-, -, hschedule, hdrain, hlead, hgrace, hloads⟩ := storeless_eq_iff.mp hrest
  rw [tag_congr hrest, tag_congr hrest, tag_drained_same, tag_drained_other, hschedule, hdrain, hlead, hgrace, hloads]
  cases p <;> exact ⟨rfl, rfl, rfl, rfl, rfl, rfl, rfl⟩

/-! ## What a changeover leaves (R130) -/

/-- The part with a changeover taken and its entry formed, its drain end not looked at yet. -/
def changeNoted (s : State) (p : Period) (x : Schedule) : State :=
  (changedOver s p (x.instant.seconds + x.drain)).note (changedOver s p (x.instant.seconds + x.drain)).capture
    (.stateChangeover p p.other x.instant (x.instant.seconds + x.drain))

section
variable (s : State) (p : Period) (x : Schedule)

theorem changedOver_sameForRecord (n : Nat) : sameForRecord s (changedOver s p n) := by
  cases p <;> simp [sameForRecord, changedOver, Period.other]

theorem changeNoted_checker :
    (changeNoted s p x).checker = (changedOver s p (x.instant.seconds + x.drain)).checker := by
  simp [changeNoted]

theorem changeNoted_oneLive : (changeNoted s p x).OneLive :=
  oneLive_of_checker (changeNoted_checker s p x) (changedOver_oneLive s p _)

theorem tag_changeNoted : (changeNoted s p x).tag p = .draining ∧ (changeNoted s p x).tag p.other = .live := by
  have hrest := congrArg storeless (changeNoted_checker s p x)
  rw [tag_congr hrest, tag_congr hrest]
  exact ⟨tag_changedOver_same s p _, tag_changedOver_other s p _⟩

theorem changeNoted_rest :
    (changeNoted s p x).checker.store = s.checker.store ∧ (changeNoted s p x).checker.schedule = none
      ∧ (changeNoted s p x).checker.drainEnd = some (x.instant.seconds + x.drain)
      ∧ (changeNoted s p x).checker.lead = s.checker.lead ∧ (changeNoted s p x).checker.grace = s.checker.grace
      ∧ (changeNoted s p x).checker.loads = s.checker.loads := by
  rw [changeNoted_checker]
  cases p <;> exact ⟨rfl, rfl, rfl, rfl, rfl, rfl⟩

theorem changeNoted_sameForRecord :
    sameForRecord (s.note s.capture (.stateChangeover p p.other x.instant (x.instant.seconds + x.drain)))
      (changeNoted s p x) := by
  have hsame := changedOver_sameForRecord s p (x.instant.seconds + x.drain)
  rw [changeNoted, capture_congr hsame]
  exact note_congr hsame _ _ _

theorem changeNoted_sameBut : sameBut s (changeNoted s p x) [.checker, .record] := by
  have hchanged : sameBut s (changedOver s p (x.instant.seconds + x.drain)) [.checker] := by
    intro b hb
    cases p <;> cases b <;> simp_all [Block.same, changedOver]
  exact sameBut_trans (sameBut_mono hchanged (by decide)) (sameBut_mono (note_sameBut _ _ _ _) (by decide))

end

end Sys2Proof.Laws

namespace Sys2Proof.Proofs

open Sys2Proof Sys2Proof.Machine Sys2Proof.Laws

/-- Settles O37: the changeover and its entry, with a drain end reached already or not; and the drain end, whose withdrawals
are a run of verdicts. -/
theorem changeoverAndDrainEnd : Obligations.ChangeoverAndDrainEnd := by
  intro s dt p hr hlive c drained withdrawn n verdicts
  have hlive' : (s.advance dt).OneLive := oneLive_of_checker rfl hlive
  have hwithdrawn : ∀ w : State, w.checker.store = s.checker.store → withdrawn (w.drainTag p) := by
    intro w hw
    refine ⟨fun e he hp => drainTag_not_pending he hp, by rw [drainTag_ids, hw], fun htables => ?_⟩
    rw [drainTag_store_of_keyed (hw ▸ (keyed_of_tablesOk htables).2), hw]
  have hverdicts : ∀ u w : State, w.checker.store = s.checker.store → sameForRecord u w →
      u.time = (s.advance dt).time → (w.drainTag p).record = (verdicts u).record := by
    intro u w hw hsame htime
    have hqueue : drainList w p = drainList s p := by simp only [drainList, State.dueQueue, hw]
    have hcount : (drainList s p).length = n := length_dueQueue_period s p
    have hquality : u.time.quality = s.time.quality := by simp [htime]
    rw [drainTag_record hsame, hqueue, hcount, hquality, capture_eq htime]
    rfl
  constructor
  · intro x hx hp hreached e
    have htaken : (s.advance dt).takeChangeover = (changeNoted (s.advance dt) p x).takeDrainEnd :=
      takeChangeover_of_reached hx (tagIn_live hlive' hp) hreached
    obtain ⟨hdraining, hother⟩ := tag_changeNoted (s.advance dt) p x
    obtain ⟨hstore, hschedule, hdrain, hlead, hgrace, hloads⟩ := changeNoted_rest (s.advance dt) p x
    have hbut := changeNoted_sameBut (s.advance dt) p x
    have hrecord := changeNoted_sameForRecord (s.advance dt) p x
    have htime : (changeNoted (s.advance dt) p x).time = (s.advance dt).time := hbut .time (by decide)
    by_cases hend : e * 1000000000 ≤ (s.advance dt).time.centre
    · rw [takeDrainEnd_of_reached (changeNoted_oneLive _ p x) hdraining hdrain (htime ▸ hend)] at htaken
      obtain ⟨htag, htag', hend', hschedule', hlead', hgrace', hloads'⟩ := drainTag_rest (changeNoted (s.advance dt) p x) p
      refine ⟨_, (exec_changeover hr dt).trans (congrArg _ htaken), hschedule'.trans hschedule, htag'.trans hother,
        fun h => absurd hend (Nat.not_le_of_lt h), fun _ => ⟨htag, hend', hwithdrawn _ hstore, ?_⟩,
        hlead'.trans hlead, hgrace'.trans hgrace, hloads'.trans hloads, sameBut_trans hbut (drainTag_sameBut _ p)⟩
      exact hverdicts _ _ hstore hrecord (by simp)
    · rw [takeDrainEnd_of_not_reached hdrain (htime ▸ Nat.lt_of_not_le hend)] at htaken
      exact ⟨_, (exec_changeover hr dt).trans (congrArg _ htaken), hschedule, hother,
        fun _ => ⟨hdraining, hdrain, hstore, hrecord.1⟩, fun h => absurd h hend, hlead, hgrace, hloads, hbut⟩
  · intro d hp hd hreached
    have htaken : (s.advance dt).takeDrainEnd = (s.advance dt).drainTag p :=
      takeDrainEnd_of_reached hlive' hp hd hreached
    obtain ⟨htag, htag', hend, hschedule, hlead, hgrace, hloads⟩ := drainTag_rest (s.advance dt) p
    exact ⟨_, (exec_drainEnd hr dt).trans (congrArg _ htaken), htag, htag', hend, hwithdrawn _ rfl,
      hverdicts _ _ rfl (by simp [sameForRecord]) rfl, hschedule, hlead, hgrace, hloads, drainTag_sameBut _ p⟩

end Sys2Proof.Proofs
end

section
/-! SUPPORT. The expiry of the due entries as a run of verdicts (R142, R143). -/

namespace Sys2Proof.Laws

open Sys2Proof Sys2Proof.Machine

theorem exec_timetableExpiry {s : State} (h : s.inReset = false) (dt : Nat) :
    exec (.timetableExpiry dt) s = .next (s.advance dt).expireDue := by
  simp [exec, execTimetableExpiry, State.timed, h]

/-! ## Elements heard through a window (R143) -/

/-- The element of an entry is OBSERVED, with a regained stamp no later than the window start (R143). -/
def heard (s : State) (e : TimetableEntry) : Prop :=
  ∃ r k, s.element e.element = some r ∧ r.coverage = .observed ∧ r.regained = some k
    ∧ ((k.day * 86400000000 + k.micros : Nat) : Int) ≤ e.windowStart * 1000000

theorem heardThrough_iff {s : State} {e : TimetableEntry} : s.heardThrough e = true ↔ heard s e := by
  unfold State.heardThrough heard
  cases s.element e.element with
  | none => simp
  | some r => cases hc : r.coverage <;> cases hk : r.regained <;> simp [hc, hk, Stamp.scaleMicros]

/-- Latched faults are no part of what was heard. -/
theorem heardThrough_congr {s t : State} (h : sameElements s t) (e : TimetableEntry) :
    t.heardThrough e = s.heardThrough e := by
  have hunlatched := element_of_sameElements h e.element
  unfold State.heardThrough
  cases hs : s.element e.element with
  | none =>
    rw [hs] at hunlatched
    rw [Option.map_eq_none_iff.mp hunlatched]
  | some r =>
    rw [hs] at hunlatched
    obtain ⟨q, hq, hqr⟩ := Option.map_eq_some_iff.mp hunlatched
    have hcoverage : q.unlatched.coverage = r.unlatched.coverage := congrArg ElementRecord.coverage hqr
    have hregained : q.unlatched.regained = r.unlatched.regained := congrArg ElementRecord.regained hqr
    change q.coverage = r.coverage at hcoverage
    change q.regained = r.regained at hregained
    simp only [hq, hcoverage, hregained]

/-! ## Expiry (R142, R143) -/

/-- The state in which an expiry leaves an entry (R143). -/
def expiredState (s : State) (e : TimetableEntry) : EntryState :=
  if s.tag e.period = .standby then .withdrawn else if s.heardThrough e then .missed else .unobserved

/-- The verdict of an entry that expires (R143). -/
def expiredVerdict (s : State) (q : Bool) (e : TimetableEntry) : VerdictEntry :=
  if s.tag e.period = .standby then e.unmatched .withdrawn (some .periodStandby) q
  else e.unmatched (if s.heardThrough e then .missed else .unobserved) none q

theorem expiredState_of_standby {s : State} {e : TimetableEntry} (h : s.tag e.period = .standby) :
    expiredState s e = .withdrawn := if_pos h

theorem expiredState_of_heard {s : State} {e : TimetableEntry} (h : s.tag e.period ≠ .standby) (hh : heard s e) :
    expiredState s e = .missed := (if_neg h).trans (if_pos (heardThrough_iff.mpr hh))

theorem expiredState_of_not_heard {s : State} {e : TimetableEntry} (h : s.tag e.period ≠ .standby) (hh : ¬ heard s e) :
    expiredState s e = .unobserved := (if_neg h).trans (if_neg (mt heardThrough_iff.mp hh))

theorem expiredState_ne_pending (s : State) (e : TimetableEntry) : expiredState s e ≠ .pending := by
  unfold expiredState
  split_ifs <;> simp

theorem expireEntry_eq (s : State) (e : TimetableEntry) :
    s.expireEntry e = judged s.capture (expiredState s) (expiredVerdict s s.time.quality.qualifies) s e := by
  unfold State.expireEntry State.withdraw judged expiredState expiredVerdict State.expiryVerdict
  split
  · rfl
  · cases s.heardThrough e <;> rfl

/-- What an expiry reads and an expiry before it leaves: the time base, the tags, and the elements but for latches. -/
def sameForExpiry (s t : State) : Prop :=
  t.time = s.time ∧ storeless t.checker = storeless s.checker ∧ sameElements s t

theorem expireEntry_congr {s t : State} (h : sameForExpiry s t) (e : TimetableEntry) :
    t.expireEntry e = judged s.capture (expiredState s) (expiredVerdict s s.time.quality.qualifies) t e := by
  obtain ⟨htime, hchecker, helements⟩ := h
  rw [expireEntry_eq]
  simp only [judged, expiredState, expiredVerdict, htime, capture_eq htime, tag_congr hchecker,
    heardThrough_congr helements]

/-- The entries that are due, in the order of the due queue (R141). -/
def dueEntries (s : State) : List TimetableEntry := s.dueQueue.filter s.isDue

theorem mem_dueEntries {s : State} {e : TimetableEntry} :
    e ∈ dueEntries s ↔ e ∈ s.checker.store ∧ e.state = .pending ∧ e.expiry * 1000000000 ≤ s.time.centre := by
  simp [dueEntries, mem_dueQueue, State.isDue, and_assoc]

/-- The due entries expire as a run of verdicts of one instant (R142). -/
theorem expireDue_eq_judged {s : State} (h : s.expiryAllowed = true) :
    s.expireDue = (dueEntries s).foldl
      (judged s.capture (expiredState s) (expiredVerdict s s.time.quality.qualifies)) s := by
  unfold State.expireDue
  rw [if_pos h]
  refine foldl_eq_of_kept (P := sameForExpiry s) (fun u e hu => ⟨expireEntry_congr hu e, ?_⟩) _ ⟨rfl, rfl, rfl⟩
  obtain ⟨htime, hchecker, helements⟩ := hu
  refine ⟨by simpa using htime, (expireEntry_storeless u e).trans hchecker, sameElements_trans helements ?_⟩
  rw [expireEntry_eq]
  exact judged_sameElements _ _ _ u e

theorem expireDue_of_not_allowed {s : State} (h : s.expiryAllowed = false) : s.expireDue = s := by
  simp [State.expireDue, h]

theorem expiryAllowed_iff {s : State} :
    s.expiryAllowed = true ↔ s.service.state = .run ∧ s.time.quality ≠ .q4 := by
  simp [State.expiryAllowed, Quality.qualifies]

section
variable {s : State} (h : s.expiryAllowed = true)
include h

/-- An expiry leaves no due entry PENDING (R142). -/
theorem expireDue_not_due {e : TimetableEntry} (he : e ∈ s.expireDue.checker.store) (hp : e.state = .pending) :
    s.time.centre < e.expiry * 1000000000 := by
  rw [expireDue_eq_judged h, foldl_judged_store] at he
  obtain ⟨x, hx, rfl⟩ := List.mem_map.mp he
  obtain ⟨hno, heq⟩ := not_mem_of_restated_pending (expiredState_ne_pending s) hp
  rw [heq] at hp ⊢
  exact Nat.lt_of_not_le fun hdue => hno (mem_dueEntries.mpr ⟨hx, hp, hdue⟩)

/-- With one entry for each id, an expiry gives the due entries their states and leaves the others (R143). -/
theorem entry_expireDue (hk : keyed TimetableEntry.id s.checker.store) {i : Nat} {e : TimetableEntry}
    (he : s.entry i = some e) :
    (e ∈ dueEntries s → s.expireDue.entry i = some { e with state := expiredState s e })
      ∧ (e ∉ dueEntries s → s.expireDue.entry i = some e) := by
  have hmem : e ∈ s.checker.store := List.mem_of_find?_eq_some he
  have hu : ∀ x ∈ dueEntries s, x.id = e.id → x = e := fun x hx => eq_of_key_eq hk (mem_dueEntries.mp hx).1 hmem
  rw [expireDue_eq_judged h, entry_foldl_judged, he, Option.map_some]
  exact ⟨fun hd => congrArg some (restated_of_mem hu hd), fun hd => congrArg some (restated_of_not_mem hu hd)⟩

theorem expireDue_ids : s.expireDue.checker.store.map (·.id) = s.checker.store.map (·.id) := by
  rw [expireDue_eq_judged h, foldl_judged_ids]

theorem expireDue_record :
    s.expireDue.record = ((dueEntries s).foldl
      (fun x e => x.verdict s.capture (expiredVerdict s s.time.quality.qualifies e)) s).record := by
  rw [expireDue_eq_judged h]
  exact (foldl_judged_congr _ _ _ (by simp [sameForRecord]) _).1

theorem expireDue_sameElements : sameElements s s.expireDue := by
  rw [expireDue_eq_judged h]
  exact foldl_judged_sameElements _ _ _ _ s

end

end Sys2Proof.Laws

namespace Sys2Proof.Proofs

open Sys2Proof Sys2Proof.Machine Sys2Proof.Laws

/-- Settles O39: the due queue in its order, and the expiry as a run of verdicts on what is due of it. -/
theorem expiryTakesDueEntries : Obligations.ExpiryTakesDueEntries := by
  intro s dt hr
  have hquality : (s.advance dt).time.quality = s.time.quality := by simp
  refine ⟨fun e => ⟨heardThrough_iff, fun _ _ _ => rfl⟩, ⟨dueQueue_perm s, dueQueue_inDueOrder s⟩,
    ?_, fun hno => ?_⟩
  · intro hrun hq u
    have hallowed : u.expiryAllowed = true := expiryAllowed_iff.mpr ⟨hrun, hquality ▸ hq⟩
    have hqualified : u.time.quality.qualifies = true := decide_eq_true (hquality ▸ hq)
    have hrecord := expireDue_record hallowed
    rw [hqualified] at hrecord
    refine ⟨u.expireDue, exec_timetableExpiry hr dt, expireDue_ids hallowed,
      fun e he hp => expireDue_not_due hallowed he hp, ?_, hrecord,
      sameBut_mono (expireDue_sameBut u) (by decide), expireDue_sameElements hallowed, expireDue_grows u⟩
    intro htables i e he heardHere
    obtain ⟨hdue, hother⟩ := entry_expireDue hallowed (keyed_of_tablesOk htables).2 he
    have hmem : e ∈ u.checker.store := List.mem_of_find?_eq_some he
    refine ⟨fun h => hother fun hd => ?_, fun hp hd => ?_⟩
    · obtain ⟨-, hp, hd⟩ := mem_dueEntries.mp hd
      exact h.elim (fun h => h hp) (Nat.not_lt_of_le hd)
    · have hentry := hdue (mem_dueEntries.mpr ⟨hmem, hp, hd⟩)
      exact ⟨fun ht => by rw [hentry, expiredState_of_standby (s := u) ht],
        fun ht hh => by rw [hentry, expiredState_of_heard (s := u) ht hh],
        fun ht hh => by rw [hentry, expiredState_of_not_heard (s := u) ht hh]⟩
  · rw [exec_timetableExpiry hr, expireDue_of_not_allowed]
    refine Bool.eq_false_iff.mpr fun hallowed => ?_
    obtain ⟨hrun, hq⟩ := expiryAllowed_iff.mp hallowed
    obtain hconfig | hq4 := hno
    · exact absurd (hrun.symm.trans hconfig) (by decide)
    · exact hq (hquality.trans hq4)

end Sys2Proof.Proofs
end

section
/-! SUPPORT. The entry that a train event matches, and what the match leaves (R137, R138, R140). -/

namespace Sys2Proof.Laws

open Sys2Proof Sys2Proof.Machine

/-! ## The best match (R137) -/

theorem matchBefore_iff {x y : TimetableEntry} :
    x.matchBefore y = true ↔
      x.scheduled.seconds < y.scheduled.seconds ∨ (x.scheduled.seconds = y.scheduled.seconds ∧ x.id < y.id) := by
  simp [TimetableEntry.matchBefore]

theorem bestMatch_eq_none_iff {l : List TimetableEntry} : bestMatch l = none ↔ l = [] := by
  cases l with
  | nil => simp [bestMatch]
  | cons e l =>
    unfold bestMatch
    split
    · simp
    · split <;> simp

/-- The best match stands in the list, and no member comes before it (R137). -/
theorem bestMatch_least {l : List TimetableEntry} {y : TimetableEntry} (h : bestMatch l = some y) :
    y ∈ l ∧ ∀ x ∈ l, ¬ x.matchBefore y = true := by
  induction l generalizing y with
  | nil => cases h
  | cons e l ih =>
    unfold bestMatch at h
    split at h
    · next hnone =>
      cases h
      rw [bestMatch_eq_none_iff] at hnone
      simp [hnone, matchBefore_iff]
    · next z hz =>
      obtain ⟨hmem, hleast⟩ := ih hz
      split at h
      · next hb =>
        cases h
        have hb := matchBefore_iff.mp hb
        refine ⟨by simp [hmem], fun x hx => ?_⟩
        obtain rfl | hx := List.mem_cons.mp hx
        · rw [matchBefore_iff]
          omega
        · exact hleast x hx
      · next hb =>
        cases h
        refine ⟨by simp, fun x hx => ?_⟩
        obtain rfl | hx := List.mem_cons.mp hx
        · simp [matchBefore_iff]
        · have hz := hleast x hx
          rw [matchBefore_iff] at hb hz ⊢
          omega

/-- The member that comes before every other is the best match. -/
theorem bestMatch_eq_some {l : List TimetableEntry} {e : TimetableEntry} (he : e ∈ l)
    (h : ∀ x ∈ l, x ≠ e → e.matchBefore x = true) : bestMatch l = some e := by
  cases hy : bestMatch l with
  | none => simp [bestMatch_eq_none_iff.mp hy] at he
  | some y =>
    obtain ⟨hmem, hleast⟩ := bestMatch_least hy
    exact congrArg some (Decidable.byContradiction fun hne => hleast e he (h y hmem hne))

/-- An entry is eligible: PENDING under a LIVE or DRAINING tag, with the event's train, element and kind, and the stamp from
its window start to its expiry (R137). -/
theorem eligible_iff {s : State} {v : TrainEvent} {e : TimetableEntry} :
    s.eligible v e = true ↔
      e.state = .pending ∧ (s.tag e.period = .live ∨ s.tag e.period = .draining) ∧ e.train = v.train
        ∧ e.element = v.element ∧ e.check = v.check ∧ e.windowStart * 1000000 ≤ (v.stamp.scaleMicros : Int)
        ∧ v.stamp.scaleMicros ≤ e.expiry * 1000000 := by
  have htag : s.tag e.period ≠ .standby ↔ s.tag e.period = .live ∨ s.tag e.period = .draining := by
    cases s.tag e.period <;> simp
  simp only [State.eligible, Bool.and_eq_true, decide_eq_true_eq, htag, and_assoc]

/-! ## A train event (R137, R138, R140) -/

/-- An entry matched by an event, with a deviation (R138). -/
def matchedBy (v : TrainEvent) (d : Int) (e : TimetableEntry) : TimetableEntry :=
  { e with state := .matched, matched := some (v.stamp, d) }

/-- The verdict on an entry that a train event matched (R138, R139). -/
def matchedVerdict (v : TrainEvent) (d : Int) (e : TimetableEntry) : VerdictEntry :=
  { verdict := e.classOf d, id := some e.id, period := some e.period, train := e.train, element := e.element,
    check := e.check, scheduled := some e.scheduled, event := some v.stamp, deviation := some d, reason := none,
    qualified := v.stamp.quality.qualifies }

/-- The verdict on a train event that no entry was eligible for (R140). -/
def unplannedVerdict (v : TrainEvent) : VerdictEntry :=
  { verdict := .unplanned, id := none, period := none, train := v.train, element := v.element, check := v.check,
    scheduled := none, event := some v.stamp, deviation := none, reason := none,
    qualified := v.stamp.quality.qualifies }

theorem trainEvent_of_match {s : State} {v : TrainEvent} {e : TimetableEntry}
    (h : bestMatch (s.checker.store.filter (s.eligible v)) = some e) :
    s.trainEvent v =
      (s.modifyEntry e.id (matchedBy v (deviation v.stamp.scaleMicros e.scheduled.seconds))).verdict
        (v.stamp.asCapture s.time.elapsed) (matchedVerdict v (deviation v.stamp.scaleMicros e.scheduled.seconds) e) := by
  simp only [State.trainEvent, h] <;> rfl

theorem trainEvent_of_no_match {s : State} {v : TrainEvent}
    (h : bestMatch (s.checker.store.filter (s.eligible v)) = none) :
    s.trainEvent v = s.verdict (v.stamp.asCapture s.time.elapsed) (unplannedVerdict v) := by
  simp only [State.trainEvent, h] <;> rfl

theorem trainEvent_sameElements (s : State) (v : TrainEvent) : sameElements s (s.trainEvent v) := by
  cases h : bestMatch (s.checker.store.filter (s.eligible v)) with
  | none =>
    rw [trainEvent_of_no_match h]
    exact verdict_sameElements s _ _
  | some e =>
    rw [trainEvent_of_match h]
    exact verdict_sameElements (s.modifyEntry e.id _) _ _

theorem trainEvent_sameBut (s : State) (v : TrainEvent) :
    sameBut s (s.trainEvent v) [.checker, .record, .alarms, .elements] := by
  cases h : bestMatch (s.checker.store.filter (s.eligible v)) with
  | none =>
    rw [trainEvent_of_no_match h]
    exact sameBut_mono (verdict_sameBut s _ _) (by decide)
  | some e =>
    rw [trainEvent_of_match h]
    exact sameBut_trans (sameBut_mono (modifyEntry_sameBut s e.id _) (by decide))
      (sameBut_mono (verdict_sameBut _ _ _) (by decide))

section
variable {s : State} {v : TrainEvent} {e : TimetableEntry}
variable (h : bestMatch (s.checker.store.filter (s.eligible v)) = some e)
include h

theorem trainEvent_store :
    (s.trainEvent v).checker.store = s.checker.store.map fun x =>
      if x.id = e.id then matchedBy v (deviation v.stamp.scaleMicros e.scheduled.seconds) x else x := by
  rw [trainEvent_of_match h]
  simp [State.modifyEntry]

theorem entry_trainEvent (i : Nat) :
    (s.trainEvent v).entry i = (s.entry i).map fun x =>
      if x.id = e.id then matchedBy v (deviation v.stamp.scaleMicros e.scheduled.seconds) x else x := by
  rw [← entry_modifyEntry s e.id i (f := matchedBy v (deviation v.stamp.scaleMicros e.scheduled.seconds)) fun _ => rfl,
    trainEvent_of_match h]
  simp [State.entry]

/-- An entry of the id that was matched is MATCHED, with the stamp and the deviation (R138). -/
theorem trainEvent_matched {x : TimetableEntry} (hx : x ∈ (s.trainEvent v).checker.store) (hid : x.id = e.id) :
    x.state = .matched ∧ x.matched = some (v.stamp, deviation v.stamp.scaleMicros e.scheduled.seconds) := by
  rw [trainEvent_store h] at hx
  obtain ⟨y, -, rfl⟩ := List.mem_map.mp hx
  by_cases hy : y.id = e.id
  · rw [if_pos hy]
    exact ⟨rfl, rfl⟩
  · rw [if_neg hy] at hid
    exact absurd hid hy

/-- The record that a match leaves is that of its verdict alone. -/
theorem trainEvent_record :
    (s.trainEvent v).record = (s.verdict (v.stamp.asCapture s.time.elapsed)
      (matchedVerdict v (deviation v.stamp.scaleMicros e.scheduled.seconds) e)).record := by
  rw [trainEvent_of_match h]
  exact (verdict_congr (modifyEntry_sameForRecord s e.id _) _ _).1

end

end Sys2Proof.Laws

namespace Sys2Proof.Proofs

open Sys2Proof Sys2Proof.Machine Sys2Proof.Laws

/-- Settles O40: the verdicts class by class, and the train event by whether an entry is eligible. -/
theorem trainEventVerdict : Obligations.TrainEventVerdict := by
  refine ⟨fun s c v => ?_, fun _ _ => rfl, fun s v => ?_⟩
  · intro raises
    have hraises : ∀ x k, x.kind = some k → v.verdict = x → raises k :=
      fun x k hk h => by simp only [raises, State.verdict, h, hk]
    exact ⟨hraises .early _ rfl, hraises .onTime _ rfl, hraises .late _ rfl, hraises .severe _ rfl,
      hraises .unplanned _ rfl, hraises .missed _ rfl, hraises .unobserved _ rfl,
      fun h => by simp only [State.verdict, h, VerdictClass.kind]⟩
  · intro micros scheduled eligible t
    have heligible : ∀ e, s.eligible v e = true ↔ eligible e := fun e => eligible_iff
    refine ⟨?_, fun hnone => ?_, trainEvent_sameElements s v, trainEvent_sameBut s v⟩
    · intro e he hel hfirst d verdict
      have hbest : bestMatch (s.checker.store.filter (s.eligible v)) = some e := by
        refine bestMatch_eq_some (List.mem_filter.mpr ⟨he, (heligible e).mpr hel⟩) fun x hx hne => ?_
        obtain ⟨hx, hxel⟩ := List.mem_filter.mp hx
        exact matchBefore_iff.mpr (hfirst x hx ((heligible x).mp hxel) hne)
      refine ⟨fun x hx hid => trainEvent_matched hbest hx hid, fun htables => ⟨?_, fun i hi => ?_⟩, fun x hx hid => ?_,
        trainEvent_record hbest⟩
      · rw [entry_trainEvent hbest, (entry_eq_some_iff htables).mpr ⟨he, rfl⟩, Option.map_some, if_pos rfl]
        rfl
      · rw [entry_trainEvent hbest]
        cases hx : s.entry i with
        | none => rfl
        | some x => rw [Option.map_some, if_neg fun hid => hi ((entry_id hx).symm.trans hid)]
      · obtain ⟨hmem, hpending⟩ := mem_dueQueue.mp hx
        obtain ⟨hmatched, -⟩ := trainEvent_matched hbest hmem hid
        exact absurd (hpending.symm.trans hmatched) (by decide)
    · have hbest : bestMatch (s.checker.store.filter (s.eligible v)) = none := by
        refine bestMatch_eq_none_iff.mpr (List.filter_eq_nil_iff.mpr fun e he hel => ?_)
        exact hnone e he ((heligible e).mp hel)
      have ht : t = s.verdict (v.stamp.asCapture s.time.elapsed) (unplannedVerdict v) := trainEvent_of_no_match hbest
      exact ⟨ht, by rw [ht]; simp⟩

end Sys2Proof.Proofs
end
